-- ==== Sys2Proof/Word.lean ====
section
/-! DEFINITION. The word types of the POTTER block (spec/00_scope.md R9, R10): every value is an
unsigned integer of a stated width, bit 0 the least significant. -/

namespace Sys2Proof

/-- `uint8`: every register and every bus transfer (R66, R69). -/
abbrev Byte := BitVec 8

/-- Sixteen bits: a W2 transaction (R91) or a test-only stimulus word (R111). -/
abbrev Word := BitVec 16

end Sys2Proof
end

