-- ==== Sys2Proof/Config.lean ====
section
/-! DEFINITION. The implementation parameters of spec/00_scope.md R8. The rows marked "fixed" are the
widths of the fields of State and the literals of the rules. The rows marked "parameter" are the fields
of `Params`, which State carries as plain data that no operation writes, so that a statement about
every state holds for every value of them (DESIGN CHOICE, notes/assumptions/4.md). -/

namespace Sys2Proof

/-- The parameters of R8 that the rules read, and the two orders D14 leaves open. -/
structure Params where
  /-- `ADC_BITS`, the width of a conversion result, at least 8 (D5). -/
  adcBits : Nat
  /-- `DEBOUNCE_TICKS`, the countdown armed on an accepted change, 1 to 255 (R145). -/
  debounceTicks : Byte
  /-- `TICK_ACTIVE`, the value of the toggled divider flag on which the tick runs (R135, D12). -/
  tickActive : Bool
  /-- `PREEMPT`, whether operations may interleave at single-byte accesses (R76, D3). -/
  preempt : Bool
  /-- The order in which a DEBOUNCE takes the eight channels, seen only when handlers nest: "then take any
  order" (D14; DESIGN CHOICE, notes/assumptions/19.md). -/
  buttonOrder : List (Fin 8)
  /-- The order in which an INTEGRATE takes the three channels, seen only when handlers nest (D14). -/
  pwmOrder : List (Fin 3)
  deriving DecidableEq, Repr

/-- The values R8 shows: `ADC_BITS` 10 (PRESUMED, notes/assumptions/5.md), `DEBOUNCE_TICKS` 200,
`TICK_ACTIVE` 0, `PREEMPT` false; and the ascending orders of R146 and R171. -/
def Params.default : Params where
  adcBits := 10
  debounceTicks := 200
  tickActive := false
  preempt := false
  buttonOrder := [0, 1, 2, 3, 4, 5, 6, 7]
  pwmOrder := [0, 1, 2]

/-- The bounds R8 sets on the parameters; an order takes every channel once. -/
def Params.wf (p : Params) : Bool :=
  decide (8 ≤ p.adcBits) && decide (p.debounceTicks ≠ 0) &&
    p.buttonOrder.isPerm [0, 1, 2, 3, 4, 5, 6, 7] && p.pwmOrder.isPerm [0, 1, 2]

/-- `BUS_ADDRESS` (R8, D16): the source gives no value and no rule reads it, so it is a constant
without a body; it stands outside the block (notes/assumptions/6.md). -/
opaque Config.busAddress : Nat

end Sys2Proof
end

