-- ==== Sys2Proof/Syntax.lean ====
section
/-! DEFINITION. The operations of the block: one constructor per row of spec/opcode_table.json, in
the table's order. A constructor's arguments are the row's operands. -/

namespace Sys2Proof

inductive Instr where
  -- format W2, a write transaction of two bus bytes `[reg, val]` (R91, R101)
  /-- WFREQ0, `[0x40, val]` (R195). -/
  | wfreq0 (val : Byte)
  /-- WDUTY0, `[0x41, val]` (R196). -/
  | wduty0 (val : Byte)
  /-- WFREQ1, `[0x42, val]` (R197). -/
  | wfreq1 (val : Byte)
  /-- WDUTY1, `[0x43, val]` (R198). -/
  | wduty1 (val : Byte)
  /-- WFREQ2, `[0x44, val]` (R199). -/
  | wfreq2 (val : Byte)
  /-- WDUTY2, `[0x45, val]` (R200). -/
  | wduty2 (val : Byte)
  /-- WOUT, `[0x60, val]` (R201). -/
  | wout (val : Byte)
  /-- WIGN, `[reg, val]` with any other `reg` (R202). -/
  | wign (reg val : Byte)
  -- format R1, a read selected by the value of `sel` (R92, R102)
  /-- RANA n, `sel` 0x00 to 0x07 (R204). -/
  | rana (n : BitVec 3)
  /-- RBTN, `sel` 0x20 (R205). -/
  | rbtn
  /-- RFALL, `sel` 0x21 (R206). -/
  | rfall
  /-- RRISE, `sel` 0x22 (R207). -/
  | rrise
  /-- RZERO, any other `sel` (R208). -/
  | rzero (reg : Byte)
  -- format B1, one received byte, read by the phase (R93)
  /-- RXSEL, a byte received in phase AwaitReg (R192). -/
  | rxsel (reg : Byte)
  /-- RXDAT, a byte received in phase AwaitData (R193). -/
  | rxdat (val : Byte)
  -- events (R5, R103) and the environment's stimulus BTN (R109)
  /-- RESET (R260). -/
  | reset
  /-- INIT (R262). -/
  | init
  /-- TOV, one timer overflow (R135). -/
  | tov
  /-- ADC_DONE(result) (R121); the result is an unsigned integer of ADC_BITS bits (R99). -/
  | adcDone (result : Nat)
  /-- BTN, the environment sets the level of the port `btn_raw` (R109, R141). -/
  | btn (raw : Byte)
  /-- RX(byte) (R191). -/
  | rx (byte : Byte)
  /-- RQ (R203). -/
  | rq
  -- procedures, which have no encoding and are called only from inside the events (R103)
  /-- TICK (R137). -/
  | tick
  /-- DEBOUNCE (R140). -/
  | debounce
  /-- INTEGRATE (R168). -/
  | integrate
  /-- SETFREQ(ch, code) (R161); any channel number is a call the rule answers. -/
  | setfreq (ch : Nat) (code : Byte)
  /-- SETDUTY(ch, duty) (R167). -/
  | setduty (ch : Nat) (duty : Byte)
  /-- DISPATCH(reg, v) (R194). -/
  | dispatch (reg val : Byte)
  deriving DecidableEq, Repr

end Sys2Proof
end

