-- ==== Sys2Proof/WellFormed.lean ====
section
/-! DEFINITION. Which terms of Instr are rows of the table: the two default rows stand only for the
addresses no other row takes (R202, R208), and SETDUTY has channels 0 to 2 (R167). -/

namespace Sys2Proof

/-- An address a write transaction reaches state through (R101): 0x40 to 0x45 and 0x60. -/
def isWriteReg (reg : Byte) : Bool :=
  (decide (0x40 ≤ reg) && decide (reg ≤ 0x45)) || decide (reg = 0x60)

/-- An address a read returns state from (R102): 0x00 to 0x07 and 0x20 to 0x22. -/
def isReadReg (reg : Byte) : Bool :=
  decide (reg ≤ 0x07) || (decide (0x20 ≤ reg) && decide (reg ≤ 0x22))

/-- The check a term of Instr passes. A default row's address belongs to no other row of its format;
SETDUTY's channel exists (R105, D18). Every other operand takes every value of its type: "every byte
in every phase has exactly one defined effect" (R107). -/
def Instr.wf : Instr → Bool
  | .wfreq0 _ => true
  | .wduty0 _ => true
  | .wfreq1 _ => true
  | .wduty1 _ => true
  | .wfreq2 _ => true
  | .wduty2 _ => true
  | .wout _ => true
  | .wign reg _ => !isWriteReg reg
  | .rana _ => true
  | .rbtn => true
  | .rfall => true
  | .rrise => true
  | .rzero reg => !isReadReg reg
  | .rxsel _ => true
  | .rxdat _ => true
  | .reset => true
  | .init => true
  | .tov => true
  | .adcDone _ => true
  | .btn _ => true
  | .rx _ => true
  | .rq => true
  | .tick => true
  | .debounce => true
  | .integrate => true
  | .setfreq _ _ => true
  | .setduty ch _ => decide (ch < 3)
  | .dispatch _ _ => true

end Sys2Proof
end

