-- ==== Sys2Proof/Decode.lean ====
section
/-! DEFINITION. The encodings of spec/30_encoding.md and the decoder over them, total on every value of
every format, rejecting by name; after it the encoder, written from the same tables. -/

namespace Sys2Proof

/-- The state of the two-state protocol machine (R38); it decides how a B1 byte is read (R93). -/
inductive Phase where
  | awaitReg
  | awaitData
  deriving DecidableEq, Repr

/-- An encoded operation: one constructor per format of R90 and R111. The formats are separate code
spaces: the word 0x4002 is the write `[0x40, 0x02]` as a W2 and the stimulus `BTN 0x02` as an event. -/
inductive Encoding where
  /-- W2 (R91): `reg` in bits 15:8, `val` in bits 7:0. -/
  | w2 (w : Word)
  /-- R1 (R92): the value of `sel` at the RQ event. -/
  | r1 (sel : Byte)
  /-- B1 (R93): a received byte and the phase that decides how it is read. -/
  | b1 (phase : Phase) (byte : Byte)
  /-- The test-only stimulus word of R111: the kind in bits 15:12, the payload in bits 11:0. -/
  | ev (w : Word)
  /-- The event of the ports `adc_done` and `adc_result` (R42) for a result of any width: the word of
  R111 needs ADC_BITS at most 12 (DESIGN CHOICE, notes/assumptions/16.md). -/
  | adc (result : Nat)
  deriving DecidableEq, Repr

/-- The one thing the decoder rejects: a stimulus word of no kind (R111, U14). -/
inductive DecodeReject where
  | noStimulus (kind : BitVec 4)
  deriving DecidableEq, Repr

/-- What the decoder answers. -/
inductive Decoded where
  | instr (i : Instr)
  | rejected (why : DecodeReject)
  deriving DecidableEq, Repr

/-! ### Fields -/

/-- `w[15:8]`, the byte that comes first on the bus (R91). -/
def hiByte (w : Word) : Byte := w.extractLsb' 8 8

/-- `w[7:0]`. -/
def loByte (w : Word) : Byte := w.extractLsb' 0 8

/-- A W2 word from its two bytes, the register byte in bits 15:8 (R91). -/
def wordOf (hi lo : Byte) : Word := hi ++ lo

/-- Bits 15:12 of a stimulus word (R111). -/
def kindOf (w : Word) : BitVec 4 := w.extractLsb' 12 4

/-- Bits 11:0 of a stimulus word (R111). -/
def payloadOf (w : Word) : BitVec 12 := w.extractLsb' 0 12

/-- A stimulus word from its kind and its payload (R111). -/
def stimulusWord (kind : BitVec 4) (payload : BitVec 12) : Word := kind ++ payload

/-! ### The decoder -/

/-- R101: the first byte selects; every address no other row takes is WIGN. -/
def decodeW2 (w : Word) : Instr :=
  if hiByte w = 0x40 then .wfreq0 (loByte w)
  else if hiByte w = 0x41 then .wduty0 (loByte w)
  else if hiByte w = 0x42 then .wfreq1 (loByte w)
  else if hiByte w = 0x43 then .wduty1 (loByte w)
  else if hiByte w = 0x44 then .wfreq2 (loByte w)
  else if hiByte w = 0x45 then .wduty2 (loByte w)
  else if hiByte w = 0x60 then .wout (loByte w)
  else .wign (hiByte w) (loByte w)

/-- R102: `sel` selects; every address no other row takes is RZERO. For RANA the index is
`sel[2:0]` (R95). -/
def decodeR1 (sel : Byte) : Instr :=
  if sel.extractLsb' 3 5 = 0 then .rana (sel.extractLsb' 0 3)
  else if sel = 0x20 then .rbtn
  else if sel = 0x21 then .rfall
  else if sel = 0x22 then .rrise
  else .rzero sel

/-- R93: `phase` alone decides how a received byte is read. -/
def decodeB1 (phase : Phase) (byte : Byte) : Instr :=
  match phase with
  | .awaitReg => .rxsel byte
  | .awaitData => .rxdat byte

/-- R111: the kind selects, as the table's masks say; payload bits a kind does not use are not looked
at (DEDUCED, notes/assumptions/13.md). Kinds 0x7 to 0xF are no stimulus. -/
def decodeEv (w : Word) : Decoded :=
  if kindOf w = 0x0 then .instr .reset
  else if kindOf w = 0x1 then .instr .init
  else if kindOf w = 0x2 then .instr .tov
  else if kindOf w = 0x3 then .instr (.adcDone (payloadOf w).toNat)
  else if kindOf w = 0x4 then .instr (.btn (loByte w))
  else if kindOf w = 0x5 then .instr (.rx (loByte w))
  else if kindOf w = 0x6 then .instr .rq
  else .rejected (.noStimulus (kindOf w))

/-- The decoder, format by format. -/
def decode (e : Encoding) : Decoded :=
  match e with
  | .w2 w => .instr (decodeW2 w)
  | .r1 sel => .instr (decodeR1 sel)
  | .b1 phase byte => .instr (decodeB1 phase byte)
  | .ev w => decodeEv w
  | .adc result => .instr (.adcDone result)

/-! ### The encoder -/

/-- The encoding of an operation, from R101, R102, R93 and R111; none for a procedure (R103). Unused
payload bits are 0. A result that does not fit the 12 payload bits has the port's event only. -/
def encode (i : Instr) : Option Encoding :=
  match i with
  | .wfreq0 val => some (.w2 (wordOf 0x40 val))
  | .wduty0 val => some (.w2 (wordOf 0x41 val))
  | .wfreq1 val => some (.w2 (wordOf 0x42 val))
  | .wduty1 val => some (.w2 (wordOf 0x43 val))
  | .wfreq2 val => some (.w2 (wordOf 0x44 val))
  | .wduty2 val => some (.w2 (wordOf 0x45 val))
  | .wout val => some (.w2 (wordOf 0x60 val))
  | .wign reg val => some (.w2 (wordOf reg val))
  | .rana n => some (.r1 (0#5 ++ n))
  | .rbtn => some (.r1 0x20)
  | .rfall => some (.r1 0x21)
  | .rrise => some (.r1 0x22)
  | .rzero reg => some (.r1 reg)
  | .rxsel reg => some (.b1 .awaitReg reg)
  | .rxdat val => some (.b1 .awaitData val)
  | .reset => some (.ev (stimulusWord 0x0 0))
  | .init => some (.ev (stimulusWord 0x1 0))
  | .tov => some (.ev (stimulusWord 0x2 0))
  | .adcDone result =>
    if result < 4096 then some (.ev (stimulusWord 0x3 (BitVec.ofNat 12 result)))
    else some (.adc result)
  | .btn raw => some (.ev (stimulusWord 0x4 (raw.zeroExtend 12)))
  | .rx byte => some (.ev (stimulusWord 0x5 (byte.zeroExtend 12)))
  | .rq => some (.ev (stimulusWord 0x6 0))
  | .tick => none
  | .debounce => none
  | .integrate => none
  | .setfreq _ _ => none
  | .setduty _ _ => none
  | .dispatch _ _ => none

/-! ### The table's numbering of bits -/

/-- The encoding a table row's bits are read as when only their number and value are given. Eight bits
are an R1. Sixteen bits are read as the row with the most fixed bits that matches: a W2 row of a mapped
register, else a stimulus word of a kind, else the default row WIGN (DESIGN CHOICE,
notes/assumptions/2.md). -/
def tableEncoding (nbits w : Nat) : Option Encoding :=
  if nbits = 8 then some (.r1 (BitVec.ofNat 8 w))
  else if nbits = 16 then
    if isWriteReg (hiByte (BitVec.ofNat 16 w)) then some (.w2 (BitVec.ofNat 16 w))
    else if kindOf (BitVec.ofNat 16 w) ≤ 0x6 then some (.ev (BitVec.ofNat 16 w))
    else some (.w2 (BitVec.ofNat 16 w))
  else none

/-- The instruction the decoder reads from a table row's bits. -/
def decodeTableWord (nbits w : Nat) : Option Instr :=
  match tableEncoding nbits w with
  | none => none
  | some e =>
    match decode e with
    | .instr i => some i
    | .rejected _ => none

/-! ### The opcode table's fixed bits -/

/-- The formats of spec/opcode_table.json; PROC rows have no encoding. -/
inductive Format where
  | w2
  | r1
  | b1
  | ev
  deriving DecidableEq, Repr

/-- A row's format, mask and match. -/
structure Row where
  format : Format
  mask : Word
  value : Word
  deriving DecidableEq, Repr

/-- Each row's format, mask and match, as spec/opcode_table.json gives them. -/
def Instr.row (i : Instr) : Option Row :=
  match i with
  | .wfreq0 _ => some { format := .w2, mask := 0xFF00, value := 0x4000 }
  | .wduty0 _ => some { format := .w2, mask := 0xFF00, value := 0x4100 }
  | .wfreq1 _ => some { format := .w2, mask := 0xFF00, value := 0x4200 }
  | .wduty1 _ => some { format := .w2, mask := 0xFF00, value := 0x4300 }
  | .wfreq2 _ => some { format := .w2, mask := 0xFF00, value := 0x4400 }
  | .wduty2 _ => some { format := .w2, mask := 0xFF00, value := 0x4500 }
  | .wout _ => some { format := .w2, mask := 0xFF00, value := 0x6000 }
  | .wign _ _ => some { format := .w2, mask := 0x0000, value := 0x0000 }
  | .rana _ => some { format := .r1, mask := 0x00F8, value := 0x0000 }
  | .rbtn => some { format := .r1, mask := 0x00FF, value := 0x0020 }
  | .rfall => some { format := .r1, mask := 0x00FF, value := 0x0021 }
  | .rrise => some { format := .r1, mask := 0x00FF, value := 0x0022 }
  | .rzero _ => some { format := .r1, mask := 0x0000, value := 0x0000 }
  | .rxsel _ => some { format := .b1, mask := 0x0000, value := 0x0000 }
  | .rxdat _ => some { format := .b1, mask := 0x0000, value := 0x0000 }
  | .reset => some { format := .ev, mask := 0xF000, value := 0x0000 }
  | .init => some { format := .ev, mask := 0xF000, value := 0x1000 }
  | .tov => some { format := .ev, mask := 0xF000, value := 0x2000 }
  | .adcDone _ => some { format := .ev, mask := 0xF000, value := 0x3000 }
  | .btn _ => some { format := .ev, mask := 0xF000, value := 0x4000 }
  | .rx _ => some { format := .ev, mask := 0xF000, value := 0x5000 }
  | .rq => some { format := .ev, mask := 0xF000, value := 0x6000 }
  | .tick => none
  | .debounce => none
  | .integrate => none
  | .setfreq _ _ => none
  | .setduty _ _ => none
  | .dispatch _ _ => none

/-- The bits of an encoding, zero-extended to 16, with its format; the port's own event has none. -/
def Encoding.bits (e : Encoding) : Option (Format × Word) :=
  match e with
  | .w2 w => some (.w2, w)
  | .r1 sel => some (.r1, sel.zeroExtend 16)
  | .b1 _ byte => some (.b1, byte.zeroExtend 16)
  | .ev w => some (.ev, w)
  | .adc _ => none

/-- An encoding's bits match a row: the row's format, and the row's match under its mask. -/
def Row.covers (r : Row) (e : Encoding) : Bool :=
  match e.bits with
  | some (f, w) => decide (f = r.format) && decide (w &&& r.mask = r.value)
  | none => false

end Sys2Proof
end

