-- ==== Sys2Proof/Machine/Operands.lean ====
section
/-! DEFINITION. Every operand form: the fields of a register address, the sample taken from a conversion
result, and the frequency codes (spec/30_encoding.md section 2 and 3, spec/42_pwm.md). -/

namespace Sys2Proof.Machine

/-- The channel field of a PWM register address, `(reg & 0x0F) >> 1` (R94, R65). -/
def channelOf (reg : Byte) : Nat := ((reg &&& 0x0F) >>> 1).toNat

/-- The register field of a PWM register address, `(reg & 0x0F) & 1`: true for the duty target (R94). -/
def isDutyReg (reg : Byte) : Bool := ((reg &&& 0x0F) &&& 1) = 1

/-- The range test that comes before the fields are taken: `0x40 <= reg <= 0x45` (R65, R94, R105). -/
def isPwmReg (reg : Byte) : Bool := decide (0x40 ≤ reg) && decide (reg ≤ 0x45)

/-- The analog channel a register address 0x00 to 0x07 names, `reg[2:0]` (R95). -/
def analogIndex (reg : Byte) : Fin 8 := (reg.extractLsb' 0 3).toFin

/-- The address of an analog register (R95). -/
def analogReg (n : BitVec 3) : Byte := 0#5 ++ n

/-- The analog channel of a multiplexer input, none for the inputs 8 to 15, which have no register
(R62, R125; UNVERIFIED, notes/assumptions/21.md). -/
def storedInput (ch : BitVec 4) : Option (Fin 8) :=
  if ch < 8 then some (ch.extractLsb' 0 3).toFin else none

/-- The stored sample `result[ADC_BITS-1 : ADC_BITS-8]` (R99, R122): truncated, not rounded
(notes/assumptions/16.md). -/
def sampleOf (adcBits result : Nat) : Byte := BitVec.ofNat 8 (result >>> (adcBits - 8))

/-- The low three bits of an accepted code, `code[2:0]` (R161, R175). -/
def logicalCode (code : Byte) : BitVec 3 := code.extractLsb' 0 3

/-- The three tests of SETFREQ (R161, R162), on the whole byte: true when the call is rejected. -/
def freqRejected (ch : Nat) (code : Byte) : Bool :=
  decide (3 ≤ ch) || decide (7 < code) || (decide (0 < ch) && (decide (code = 3) || decide (code = 5)))

/-- The table of R163, logical code to the hardware code of the shared prescaler; none where the table
says "rejected" and for a byte that is no code. Codes 0 to 2 pass unchanged (DEDUCED,
notes/assumptions/18.md). -/
def remap (code : Byte) : Option (BitVec 3) :=
  if code = 3 ∨ code = 5 ∨ 7 < code then none
  else if code ≤ 2 then some (logicalCode code)
  else if code = 4 then some (logicalCode code - 1)
  else some (logicalCode code - 2)

end Sys2Proof.Machine
end

