-- ==== Sys2Proof/Machine/State.lean ====
section
/-! DEFINITION. The state of the block (spec/10_state.md R20 to R50), its environment's inputs and
outputs as plain data, the reasons a step can stop, and the state after reset. -/

namespace Sys2Proof.Machine

/-- Why the machine has no step: the stuck states of R263 and U11. Each is SAFE: the model stops where
the spec says the environment cannot produce the event. -/
inductive Fault where
  /-- ADC_DONE, TOV, RX or RQ while `enabled` is 0 (R263); raised by the meanings of those events and of
  the rows of the formats W2, R1 and B1 that are made of them. Safe. -/
  | notEnabled
  /-- ADC_DONE while no conversion is in flight, `adc_busy` 0 (R121); raised by ADC_DONE. Safe. -/
  | noConversion
  /-- INIT while `enabled` is 1: a second INIT without a RESET (R262, R263); raised by INIT. Safe. -/
  | alreadyInit
  /-- A row of format R1 whose address is not the value of `sel`, or a row of format B1 whose phase is
  not `phase` (R92, R93): the event is another row (DESIGN CHOICE, notes/assumptions/10.md); raised by those rows. A step never raises it, since
  it reads the row from `sel` or `phase`. Safe. -/
  | rowNotSelected
  deriving DecidableEq, Repr

/-- Why an instruction has no meaning. Each is SAFE: the model stops. -/
inductive Refusal where
  /-- A row of the table that has no meaning yet; raised by exec's arm. Safe. -/
  | notModelled (mnemonic : String)
  /-- SETDUTY with a channel of 3 or more: "refuse: the model gives it no meaning and no rule calls it"
  (U3, D18); raised by SETDUTY. Safe. -/
  | dutyChannel (ch : Nat)
  /-- A stimulus word of kind 0x7 to 0xF: "not a stimulus; a harness refuses it" (R111, U14); raised by
  the step that takes it from the inbox. Safe. -/
  | noStimulus (kind : BitVec 4)
  deriving DecidableEq, Repr

/-- What the environment delivers next (R5, R17), as plain data. -/
inductive Stimulus where
  /-- A stimulus word of R111: an event, or the environment's BTN. -/
  | word (w : Word)
  /-- A write transaction: two bytes received one after the other (R91). -/
  | write (w : Word)
  /-- One received byte (R93). -/
  | byte (b : Byte)
  /-- One requested byte (R92). -/
  | read
  /-- A completed conversion, with a result of any width (R42). -/
  | adcDone (result : Nat)
  /-- No event now. It matters only under PREEMPT: the operation in progress makes its next access
  before the next event arrives (R76). -/
  | pass
  deriving DecidableEq, Repr

/-- What the block sends out on its event ports (R43). -/
inductive PortEvent where
  /-- `adc_start` pulsed, with the value `adc_mux` shows at the pulse (R124). -/
  | adcStart (mux : BitVec 4)
  /-- `bus_tx_data`, the byte an RQ returns (R203). -/
  | txData (d : Byte)
  deriving DecidableEq, Repr

/-- The three event sources (R235). -/
inductive Source where
  | scanner
  | tick
  | bus
  deriving DecidableEq, Repr

/-- One single-byte read or write of an operation (R76). A value read earlier in the operation stands in
the access that uses it. -/
inductive Access where
  -- ADC_DONE (R121)
  | readMux (result : Nat)
  | writeAna (i : Fin 8) (v : Byte)
  | writeMux (v : BitVec 4)
  | pulseStart
  -- TOV, TICK (R135, R137)
  | readDiv
  | writeDiv (v : Bool)
  | testDiv
  -- DEBOUNCE (R140)
  | sampleRaw
  | testCnt (i : Fin 8) (raw : Bool)
  | readCnt (i : Fin 8)
  | writeCnt (i : Fin 8) (v : Byte)
  | compareLevel (i : Fin 8) (raw : Bool)
  | readLevels (i : Fin 8) (raw : Bool)
  | writeLevels (v : Byte)
  | readRise (i : Fin 8)
  | writeRise (v : Byte)
  | readFall (i : Fin 8)
  | writeFall (v : Byte)
  -- INTEGRATE (R168)
  | readOutput (c : Fin 3)
  | testBelow (c : Fin 3) (cur : Byte)
  | testAbove (c : Fin 3) (cur : Byte)
  | writeOutput (c : Fin 3) (v : Byte)
  -- RX (R191)
  | readPhase (byte : Byte)
  | writeSel (v : Byte)
  | writePend (v : Byte)
  | readTarget
  | readPend (reg : Byte)
  | writePhase (p : Phase)
  -- DISPATCH, SETFREQ, SETDUTY (R65, R161, R167)
  | writeFreq (c : Fin 3) (v : BitVec 3)
  | writePrescA (v : BitVec 3)
  | writePrescB (v : BitVec 3)
  | writeOcEn (c : Fin 3) (v : Bool)
  | writeDuty (c : Fin 3) (v : Byte)
  | writeOut (v : Byte)
  -- RQ (R203)
  | readSel
  | readReg (addr : Byte)
  | reply (d : Byte)
  deriving DecidableEq, Repr

/-- An operation in progress: its event source and the accesses it has yet to make (R76). -/
structure Activation where
  source : Source
  todo : List Access
  deriving DecidableEq, Repr

/-- The whole state: the block's registers under the names of R49, and beside them the inputs of the step
and the outputs of the event ports. -/
@[ext]
structure State where
  -- configuration and environment: inputs of the step, not state of the block (R21)
  /-- The parameters of R8; no operation writes them. -/
  params : Params
  /-- The level of the input port `btn_raw` (R42), which the environment sets. -/
  btnRaw : Byte
  /-- The events still to come, the next one first (R5, R7; DESIGN CHOICE, notes/assumptions/1.md). -/
  inbox : List Stimulus
  /-- What the block has sent on its event ports, the latest first (R43; DESIGN CHOICE,
  notes/assumptions/27.md). -/
  outbox : List PortEvent
  -- scanner
  /-- `ana[0..7]` (R22). -/
  ana : Vector Byte 8
  /-- `mux` (R23). -/
  mux : BitVec 4
  /-- `adc_busy` (R24). -/
  adcBusy : Bool
  -- button debouncer: each bitmap is one byte whose bit i is channel i (R67, D17)
  /-- `btn_state[0..7]` (R25). -/
  btnState : Byte
  /-- `btn_fall[0..7]` (R26). -/
  btnFall : Byte
  /-- `btn_rise[0..7]` (R27). -/
  btnRise : Byte
  /-- `btn_cnt[0..7]` (R28). -/
  btnCnt : Vector Byte 8
  -- tick driver
  /-- `tick_div` (R29). -/
  tickDiv : Bool
  -- PWM controller
  /-- `pwm_freq[0..2]` (R30). -/
  pwmFreq : Vector (BitVec 3) 3
  /-- `pwm_target[0..2]` (R31). -/
  pwmTarget : Vector Byte 3
  /-- `pwm_level[0..2]` (R32). -/
  pwmLevel : Vector Byte 3
  /-- `presc_a` (R33). -/
  prescA : BitVec 3
  /-- `presc_b` (R34). -/
  prescB : BitVec 3
  /-- `oc_en[0..2]` (R35). -/
  ocEn : Vector Bool 3
  -- raw output port
  /-- `out_port` (R37). -/
  outPort : Byte
  -- protocol responder
  /-- `phase` (R38). -/
  phase : Phase
  /-- `sel` (R39). -/
  sel : Byte
  /-- `pend` (R40). -/
  pend : Byte
  -- startup
  /-- `enabled` (R41). -/
  enabled : Bool
  /-- The operation in progress; none except under PREEMPT (R76). -/
  inflight : Option Activation
  deriving DecidableEq, Repr

/-- The machine right after RESET: every register at the value of R49, of which the decided ones
are UNVERIFIED (notes/assumptions/8.md). The parameters have their default values, `btn_raw` is at 0x00
(DESIGN CHOICE, notes/assumptions/7.md), nothing is due and nothing has been sent. -/
def State.reset : State where
  params := Params.default
  btnRaw := 0x00
  inbox := []
  outbox := []
  ana := #v[0x00, 0x00, 0x00, 0x00, 0x00, 0x00, 0x00, 0x00]
  mux := 0
  adcBusy := false
  btnState := 0x00
  btnFall := 0x00
  btnRise := 0x00
  btnCnt := #v[0, 0, 0, 0, 0, 0, 0, 0]
  tickDiv := false
  pwmFreq := #v[0, 0, 0]
  pwmTarget := #v[0x00, 0x00, 0x00]
  pwmLevel := #v[0x00, 0x00, 0x00]
  prescA := 0
  prescB := 0
  ocEn := #v[false, false, false]
  outPort := 0x00
  phase := .awaitReg
  sel := 0x00
  pend := 0x00
  enabled := false
  inflight := none

end Sys2Proof.Machine
end

