-- ==== Sys2Proof/Machine/Ops.lean ====
section
/-! DEFINITION. The named operations over the registers: one update per register, the pulse and the reply
of the event ports, and the register-map read (spec/20_memory.md R64). The block takes no exception
(R230), so there is no operation that enters one or returns from one. -/

namespace Sys2Proof.Machine

/-! ### One update per register -/

def State.putBtnRaw (v : Byte) (s : State) : State := { s with btnRaw := v }

def State.putInbox (v : List Stimulus) (s : State) : State := { s with inbox := v }

def State.putAna (i : Fin 8) (v : Byte) (s : State) : State := { s with ana := s.ana.set i v }

def State.putMux (v : BitVec 4) (s : State) : State := { s with mux := v }

def State.putAdcBusy (v : Bool) (s : State) : State := { s with adcBusy := v }

def State.putBtnState (v : Byte) (s : State) : State := { s with btnState := v }

def State.putBtnFall (v : Byte) (s : State) : State := { s with btnFall := v }

def State.putBtnRise (v : Byte) (s : State) : State := { s with btnRise := v }

def State.putBtnCnt (i : Fin 8) (v : Byte) (s : State) : State := { s with btnCnt := s.btnCnt.set i v }

def State.putTickDiv (v : Bool) (s : State) : State := { s with tickDiv := v }

def State.putPwmFreq (c : Fin 3) (v : BitVec 3) (s : State) : State := { s with pwmFreq := s.pwmFreq.set c v }

def State.putPwmTarget (c : Fin 3) (v : Byte) (s : State) : State := { s with pwmTarget := s.pwmTarget.set c v }

def State.putPwmLevel (c : Fin 3) (v : Byte) (s : State) : State := { s with pwmLevel := s.pwmLevel.set c v }

def State.putPrescA (v : BitVec 3) (s : State) : State := { s with prescA := v }

def State.putPrescB (v : BitVec 3) (s : State) : State := { s with prescB := v }

def State.putOcEn (c : Fin 3) (v : Bool) (s : State) : State := { s with ocEn := s.ocEn.set c v }

def State.putOutPort (v : Byte) (s : State) : State := { s with outPort := v }

def State.putPhase (v : Phase) (s : State) : State := { s with phase := v }

def State.putSel (v : Byte) (s : State) : State := { s with sel := v }

def State.putPend (v : Byte) (s : State) : State := { s with pend := v }

def State.putEnabled (v : Bool) (s : State) : State := { s with enabled := v }

def State.putInflight (v : Option Activation) (s : State) : State := { s with inflight := v }

/-! ### The event ports (R43) -/

/-- The block sends an event on an output port. -/
def State.emit (e : PortEvent) (s : State) : State := { s with outbox := e :: s.outbox }

/-- `pulse adc_start`, with `adc_mux` showing `mux` (R124). -/
def State.pulseAdcStart (s : State) : State := s.emit (.adcStart s.mux)

/-! ### The register map, read (R64) -/

/-- The byte the register map holds at an address (R63, R64). -/
def regData (addr : Byte) (s : State) : Byte :=
  if addr ≤ 0x07 then s.ana[analogIndex addr]
  else if addr = 0x20 then s.btnState
  else if addr = 0x21 then s.btnFall
  else if addr = 0x22 then s.btnRise
  else 0x00

/-- The side effect of a read: 0x21 and 0x22 clear their bitmap (R64, R70). -/
def clearOnRead (addr : Byte) (s : State) : State :=
  if addr = 0x21 then s.putBtnFall 0x00
  else if addr = 0x22 then s.putBtnRise 0x00
  else s

/-- `MemRead(addr, 1)` (R64): the value first, the clear after it. -/
def memRead (addr : Byte) (s : State) : Byte × State := (regData addr s, clearOnRead addr s)

/-! ### When an event has a step (R41, R263) -/

/-- The events ADC_DONE, TOV, RX and RQ have no step while `enabled` is 0. -/
def whenEnabled (s : State) (run : State → Host.Outcome State Fault Refusal) :
    Host.Outcome State Fault Refusal :=
  if s.enabled then run s else .fault .notEnabled

end Sys2Proof.Machine
end

