-- ==== Sys2Proof/Machine/Flags.lean ====
section
/-! DEFINITION. Every flag computation: the bits of the button bitmaps (spec/41_tick_debouncer.md R143,
R144), the divider flag (R135) and the output-compare enables (spec/42_pwm.md R166). The block has no
arithmetic condition codes (R46). -/

namespace Sys2Proof.Machine

/-- A bitmap with bit `i` at the given value; bit i is channel i (R67). -/
def setBit (b : Byte) (i : Fin 8) (v : Bool) : Byte :=
  if v then b ||| (1#8 <<< i.val) else b &&& ~~~(1#8 <<< i.val)

/-- Bit `i` of a bitmap. -/
def bitOf (b : Byte) (i : Fin 8) : Bool := b.getLsbD i.val

/-- The rising flags after an accepted change: a new level 1 sets the channel's flag (R144). -/
def raiseRise (i : Fin 8) (level : Bool) (rise : Byte) : Byte :=
  if level then setBit rise i true else rise

/-- The falling flags after an accepted change: a new level 0 sets the channel's flag (R144). -/
def raiseFall (i : Fin 8) (level : Bool) (fall : Byte) : Byte :=
  if level then fall else setBit fall i true

/-- The enable an accepted code gives (R166): connected unless the code is 0. -/
def ocEnable (code : Byte) : Bool := code != 0

/-- Whether the toggled divider flag makes this overflow a tick (R135). -/
def isTick (s : State) : Bool := s.tickDiv == s.params.tickActive

end Sys2Proof.Machine
end

