-- ==== Sys2Proof/Machine/Pwm.lean ====
section
/-! DEFINITION. The PWM channel controller (spec/42_pwm.md): SETFREQ, SETDUTY, INTEGRATE. -/

namespace Sys2Proof.Machine

/-- The accepted SETFREQ of channel 0 (R161, R164). -/
def setFreqA (code : Byte) (s : State) : State :=
  { s with
    pwmFreq := s.pwmFreq.set 0 (logicalCode code)
    prescA := logicalCode code
    ocEn := s.ocEn.set 0 (ocEnable code) }

/-- The accepted SETFREQ of channel 1 or 2, with the hardware code of R163 (R161, R165). -/
def setFreqB (code : Byte) (hw : BitVec 3) (s : State) : State :=
  { s with
    pwmFreq := (s.pwmFreq.set 1 (logicalCode code)).set 2 (logicalCode code)
    prescB := hw
    ocEn := (s.ocEn.set 1 (ocEnable code)).set 2 (ocEnable code) }

/-- SETFREQ (R161). A rejected call changes nothing (R162); `remap` is none only for a rejected code. -/
def setFreq (ch : Nat) (code : Byte) (s : State) : State :=
  if freqRejected ch code then s
  else if ch = 0 then setFreqA code s
  else
    match remap code with
    | some hw => setFreqB code hw s
    | none => s

/-- SETDUTY (R167) for the channels 0 to 2. No rule calls it with another (R105, U3): SETDUTY's meaning
refuses such a channel before it comes here (notes/assumptions/12.md). -/
def setDuty (ch : Nat) (duty : Byte) (s : State) : State :=
  if h : ch < 3 then s.putPwmTarget ⟨ch, h⟩ duty else s

/-- The ramp step of one level toward its target (R168, R169): at the target, no change. -/
def rampLevel (cur target : Byte) : Byte :=
  if cur < target then cur + 1 else if target < cur then cur - 1 else cur

/-- One channel of INTEGRATE (R168); at the target the level written is the level read, which no one can
see (R170, notes/assumptions/23.md). -/
def rampChannel (c : Fin 3) (s : State) : State :=
  s.putPwmLevel c (rampLevel s.pwmLevel[c] s.pwmTarget[c])

/-- The three PWM channels in the order of R168. -/
def pwmChannels : List (Fin 3) := [0, 1, 2]

/-- INTEGRATE (R168): every channel, whatever its code and enable are (R171). -/
def integrate (s : State) : State := pwmChannels.foldl (fun t c => rampChannel c t) s

/-- INTEGRATE as a row of the table. -/
def execIntegrate (s : State) : Host.Outcome State Fault Refusal := .next (integrate s)

/-- SETFREQ as a row of the table. -/
def execSetfreq (ch : Nat) (code : Byte) (s : State) : Host.Outcome State Fault Refusal :=
  .next (setFreq ch code s)

/-- SETDUTY as a row of the table: refused for a channel the block does not have (U3, D18). -/
def execSetduty (ch : Nat) (duty : Byte) (s : State) : Host.Outcome State Fault Refusal :=
  if ch < 3 then .next (setDuty ch duty s) else .refused (.dutyChannel ch)

end Sys2Proof.Machine
end

