-- ==== Sys2Proof/Machine/Protocol.lean ====
section
/-! DEFINITION. The register protocol responder (spec/43_protocol.md): RX, RQ, DISPATCH and the rows of
the formats W2, R1 and B1. -/

namespace Sys2Proof.Machine

/-- `MemWrite(addr, 1, v)` (R65), which is DISPATCH (R194): the range test before the fields. -/
def memWrite (addr v : Byte) (s : State) : State :=
  if isPwmReg addr then
    if isDutyReg addr then setDuty (channelOf addr) v s else setFreq (channelOf addr) v s
  else if addr = 0x60 then s.putOutPort v
  else s

/-- A received register byte (R192). -/
def rxSelect (byte : Byte) (s : State) : State := { s with sel := byte, phase := .awaitData }

/-- A received data byte (R193): store, dispatch to `sel`, close the write. -/
def rxData (byte : Byte) (s : State) : State :=
  (memWrite s.sel byte (s.putPend byte)).putPhase .awaitReg

/-- The effect of RX (R191). -/
def rx (byte : Byte) (s : State) : State :=
  match s.phase with
  | .awaitReg => rxSelect byte s
  | .awaitData => rxData byte s

/-- The effect of RQ (R203): the reply formed and the bitmap cleared, the phase closed (R209), the byte
returned. -/
def rq (s : State) : State :=
  { (memRead s.sel s).2 with
    phase := .awaitReg
    outbox := .txData (memRead s.sel s).1 :: s.outbox }

/-- RX (R191). -/
def execRx (byte : Byte) (s : State) : Host.Outcome State Fault Refusal :=
  whenEnabled s fun s => .next (rx byte s)

/-- RQ (R203). -/
def execRq (s : State) : Host.Outcome State Fault Refusal := whenEnabled s fun s => .next (rq s)

/-- RXSEL: the RX of phase AwaitReg (R192). -/
def execRxsel (reg : Byte) (s : State) : Host.Outcome State Fault Refusal :=
  whenEnabled s fun s => if s.phase = .awaitReg then .next (rxSelect reg s) else .fault .rowNotSelected

/-- RXDAT: the RX of phase AwaitData (R193). -/
def execRxdat (val : Byte) (s : State) : Host.Outcome State Fault Refusal :=
  whenEnabled s fun s => if s.phase = .awaitData then .next (rxData val s) else .fault .rowNotSelected

/-- DISPATCH as a row of the table (R194). -/
def execDispatch (reg val : Byte) (s : State) : Host.Outcome State Fault Refusal :=
  .next (memWrite reg val s)

/-! ### Format W2: two bytes received one after the other (R90, R101) -/

/-- The write transaction `[reg, val]`: two RX, from wherever the phase stands (R90, R108, R214), with
no other event between them (DESIGN CHOICE, notes/assumptions/11.md). -/
def busWrite (reg val : Byte) (s : State) : Host.Outcome State Fault Refusal :=
  whenEnabled s fun s => .next (rx val (rx reg s))

/-- WFREQ0 (R195). -/
def execWfreq0 (val : Byte) (s : State) : Host.Outcome State Fault Refusal := busWrite 0x40 val s

/-- WDUTY0 (R196). -/
def execWduty0 (val : Byte) (s : State) : Host.Outcome State Fault Refusal := busWrite 0x41 val s

/-- WFREQ1 (R197). -/
def execWfreq1 (val : Byte) (s : State) : Host.Outcome State Fault Refusal := busWrite 0x42 val s

/-- WDUTY1 (R198). -/
def execWduty1 (val : Byte) (s : State) : Host.Outcome State Fault Refusal := busWrite 0x43 val s

/-- WFREQ2 (R199). -/
def execWfreq2 (val : Byte) (s : State) : Host.Outcome State Fault Refusal := busWrite 0x44 val s

/-- WDUTY2 (R200). -/
def execWduty2 (val : Byte) (s : State) : Host.Outcome State Fault Refusal := busWrite 0x45 val s

/-- WOUT (R201). -/
def execWout (val : Byte) (s : State) : Host.Outcome State Fault Refusal := busWrite 0x60 val s

/-- WIGN (R202). -/
def execWign (reg val : Byte) (s : State) : Host.Outcome State Fault Refusal := busWrite reg val s

/-! ### Format R1: the RQ whose `sel` is the row's address (R92, R102) -/

/-- The RQ of a row: it is that row when `sel` holds the row's address. -/
def busRead (reg : Byte) (s : State) : Host.Outcome State Fault Refusal :=
  whenEnabled s fun s => if s.sel = reg then .next (rq s) else .fault .rowNotSelected

/-- RANA n (R204). -/
def execRana (n : BitVec 3) (s : State) : Host.Outcome State Fault Refusal := busRead (analogReg n) s

/-- RBTN (R205). -/
def execRbtn (s : State) : Host.Outcome State Fault Refusal := busRead 0x20 s

/-- RFALL (R206). -/
def execRfall (s : State) : Host.Outcome State Fault Refusal := busRead 0x21 s

/-- RRISE (R207). -/
def execRrise (s : State) : Host.Outcome State Fault Refusal := busRead 0x22 s

/-- RZERO (R208). -/
def execRzero (reg : Byte) (s : State) : Host.Outcome State Fault Refusal := busRead reg s

end Sys2Proof.Machine
end

