-- ==== Sys2Proof/Machine/Scanner.lean ====
section
/-! DEFINITION. The analog channel scanner (spec/40_scanner.md). -/

namespace Sys2Proof.Machine

/-- The analog registers after a completed conversion: stored nowhere for an input 8 to 15 (R125). -/
def storeSample (ch : BitVec 4) (sample : Byte) (ana : Vector Byte 8) : Vector Byte 8 :=
  match storedInput ch with
  | some i => ana.set i sample
  | none => ana

/-- The effect of ADC_DONE (R121): store, advance modulo 16, request the next conversion. -/
def adcDone (result : Nat) (s : State) : State :=
  { s with
    ana := storeSample s.mux (sampleOf s.params.adcBits result) s.ana
    mux := s.mux + 1
    outbox := .adcStart (s.mux + 1) :: s.outbox }

/-- ADC_DONE (R121): it has a step when `enabled` and `adc_busy` are 1. -/
def execAdcDone (result : Nat) (s : State) : Host.Outcome State Fault Refusal :=
  whenEnabled s fun s => if s.adcBusy then .next (adcDone result s) else .fault .noConversion

end Sys2Proof.Machine
end

