-- ==== Sys2Proof/Machine/Startup.lean ====
section
/-! DEFINITION. Reset and startup (spec/70_reset_and_hazards.md section 1). -/

namespace Sys2Proof.Machine

/-- The effect of RESET (R260): every state register at its reset value (R49). The parameters and the
environment's port level, coming events and received outputs are not registers of the block (R21;
DESIGN CHOICE, notes/assumptions/27.md). An operation in progress is abandoned (DESIGN CHOICE,
notes/assumptions/14.md). -/
def hardReset (s : State) : State :=
  { State.reset with params := s.params, btnRaw := s.btnRaw, inbox := s.inbox, outbox := s.outbox }

/-- RESET (R260): always enabled. -/
def execReset (s : State) : Host.Outcome State Fault Refusal := .next (hardReset s)

/-- The effect of INIT (R262): the first conversion is requested on the input `mux`. -/
def startUp (s : State) : State :=
  { s with enabled := true, adcBusy := true, outbox := .adcStart s.mux :: s.outbox }

/-- INIT (R262): it has a step once after each RESET (R263). -/
def execInit (s : State) : Host.Outcome State Fault Refusal :=
  if s.enabled then .fault .alreadyInit else .next (startUp s)

end Sys2Proof.Machine
end

