-- ==== Sys2Proof/Machine/Tick.lean ====
section
/-! DEFINITION. The periodic tick driver and the button debouncer (spec/41_tick_debouncer.md). -/

namespace Sys2Proof.Machine

/-- An accepted change (R143, R144, R145): flip the state, set the flag, arm the countdown. -/
def acceptChange (i : Fin 8) (level : Bool) (s : State) : State :=
  { s with
    btnState := setBit s.btnState i level
    btnRise := raiseRise i level s.btnRise
    btnFall := raiseFall i level s.btnFall
    btnCnt := s.btnCnt.set i s.params.debounceTicks }

/-- One channel of DEBOUNCE (R140), with the sample of the port. -/
def debounceChannel (raw : Byte) (i : Fin 8) (s : State) : State :=
  if s.btnCnt[i] ≠ 0 then s.putBtnCnt i (s.btnCnt[i] - 1)
  else if bitOf raw i = bitOf s.btnState i then s
  else acceptChange i (bitOf raw i) s

/-- The eight button channels in the order of R140. -/
def buttonChannels : List (Fin 8) := [0, 1, 2, 3, 4, 5, 6, 7]

/-- DEBOUNCE (R140): one sample of `btn_raw`, not inverted (R141, D13; UNVERIFIED, notes/assumptions/20.md),
then every channel. -/
def debounce (s : State) : State :=
  buttonChannels.foldl (fun t i => debounceChannel s.btnRaw i t) s

/-- TICK (R137): debounce before ramp. -/
def tick (s : State) : State := integrate (debounce s)

/-- The effect of TOV (R135): toggle first, then the tick on the active half. -/
def tov (s : State) : State :=
  if isTick (s.putTickDiv (!s.tickDiv)) then tick (s.putTickDiv (!s.tickDiv))
  else s.putTickDiv (!s.tickDiv)

/-- TOV (R135). -/
def execTov (s : State) : Host.Outcome State Fault Refusal := whenEnabled s fun s => .next (tov s)

/-- BTN (R109, R141): the environment sets the level of the port; no state of the block changes. -/
def execBtn (raw : Byte) (s : State) : Host.Outcome State Fault Refusal := .next (s.putBtnRaw raw)

/-- TICK as a row of the table. -/
def execTick (s : State) : Host.Outcome State Fault Refusal := .next (tick s)

/-- DEBOUNCE as a row of the table. -/
def execDebounce (s : State) : Host.Outcome State Fault Refusal := .next (debounce s)

end Sys2Proof.Machine
end

