-- ==== Sys2Proof/Machine/Dispatch.lean ====
section
/-! DEFINITION. The meaning of every row of spec/opcode_table.json, one arm per constructor. -/

namespace Sys2Proof.Machine

def exec (i : Instr) (s : State) : Host.Outcome State Fault Refusal :=
  match i with
  | .wfreq0 val => Sys2Proof.Machine.execWfreq0 val s
  | .wduty0 val => Sys2Proof.Machine.execWduty0 val s
  | .wfreq1 val => Sys2Proof.Machine.execWfreq1 val s
  | .wduty1 val => Sys2Proof.Machine.execWduty1 val s
  | .wfreq2 val => Sys2Proof.Machine.execWfreq2 val s
  | .wduty2 val => Sys2Proof.Machine.execWduty2 val s
  | .wout val => Sys2Proof.Machine.execWout val s
  | .wign reg val => Sys2Proof.Machine.execWign reg val s
  | .rana n => Sys2Proof.Machine.execRana n s
  | .rbtn => Sys2Proof.Machine.execRbtn s
  | .rfall => Sys2Proof.Machine.execRfall s
  | .rrise => Sys2Proof.Machine.execRrise s
  | .rzero reg => Sys2Proof.Machine.execRzero reg s
  | .rxsel reg => Sys2Proof.Machine.execRxsel reg s
  | .rxdat val => Sys2Proof.Machine.execRxdat val s
  | .reset => Sys2Proof.Machine.execReset s
  | .init => Sys2Proof.Machine.execInit s
  | .tov => Sys2Proof.Machine.execTov s
  | .adcDone result => Sys2Proof.Machine.execAdcDone result s
  | .btn raw => Sys2Proof.Machine.execBtn raw s
  | .rx byte => Sys2Proof.Machine.execRx byte s
  | .rq => Sys2Proof.Machine.execRq s
  | .tick => Sys2Proof.Machine.execTick s
  | .debounce => Sys2Proof.Machine.execDebounce s
  | .integrate => Sys2Proof.Machine.execIntegrate s
  | .setfreq ch code => Sys2Proof.Machine.execSetfreq ch code s
  | .setduty ch duty => Sys2Proof.Machine.execSetduty ch duty s
  | .dispatch reg val => Sys2Proof.Machine.execDispatch reg val s

end Sys2Proof.Machine
end

