-- ==== Sys2Proof/Machine/Preempt.lean ====
section
/-! DEFINITION. The finer model for PREEMPT = true (spec/20_memory.md R76 to R79): each operation as the
sequence of the single-byte reads and writes its pseudocode lists, in the order listed; the order of the
channels is a parameter (D14). A bitmap is one byte, read and written whole (D17). What R76 leaves open here is fixed by DESIGN CHOICE
(notes/assumptions/14.md). -/

namespace Sys2Proof.Machine

/-! ### The accesses an operation makes, in order -/

/-- INTEGRATE (R168), the channels in the given order (D14). -/
def integrateAccesses (order : List (Fin 3)) : List Access := order.map .readOutput

/-- TICK (R137): DEBOUNCE, then INTEGRATE. -/
def tickAccesses (p : Params) : List Access := .sampleRaw :: integrateAccesses p.pwmOrder

/-- The channels of DEBOUNCE after the sample (R140), in the given order (D14). -/
def debounceAccesses (order : List (Fin 8)) (raw : Byte) : List Access :=
  order.map fun i => .testCnt i (bitOf raw i)

/-- An accepted change (R140): `btn_state`, the flag, the countdown. -/
def acceptAccesses (i : Fin 8) (raw : Bool) (ticks : Byte) : List Access :=
  [.readLevels i raw, if raw then .readRise i else .readFall i, .writeCnt i ticks]

/-- SETFREQ (R161). -/
def setFreqAccesses (ch : Nat) (code : Byte) : List Access :=
  if freqRejected ch code then []
  else if ch = 0 then
    [.writeFreq 0 (logicalCode code), .writePrescA (logicalCode code), .writeOcEn 0 (ocEnable code)]
  else
    match remap code with
    | some hw =>
      [.writeFreq 1 (logicalCode code), .writeFreq 2 (logicalCode code), .writePrescB hw,
        .writeOcEn 1 (ocEnable code), .writeOcEn 2 (ocEnable code)]
    | none => []

/-- SETDUTY (R167). -/
def setDutyAccesses (ch : Nat) (duty : Byte) : List Access :=
  if h : ch < 3 then [.writeDuty ⟨ch, h⟩ duty] else []

/-- DISPATCH (R65, R194). -/
def memWriteAccesses (addr v : Byte) : List Access :=
  if isPwmReg addr then
    if isDutyReg addr then setDutyAccesses (channelOf addr) v else setFreqAccesses (channelOf addr) v
  else if addr = 0x60 then [.writeOut v]
  else []

/-- The clear of a read (R64): a write of zero after the read of the bitmap (R77). -/
def clearAccesses (addr : Byte) : List Access :=
  if addr = 0x21 then [.writeFall 0x00] else if addr = 0x22 then [.writeRise 0x00] else []

/-! ### One access -/

/-- The effect of one access and the accesses it leads to, which come before those already due. -/
def Access.run (a : Access) (s : State) : State × List Access :=
  match a with
  | .readMux result =>
    (s, (match storedInput s.mux with
        | some i => [.writeAna i (sampleOf s.params.adcBits result)]
        | none => []) ++ [.writeMux (s.mux + 1), .pulseStart])
  | .writeAna i v => (s.putAna i v, [])
  | .writeMux v => (s.putMux v, [])
  | .pulseStart => (s.pulseAdcStart, [])
  | .readDiv => (s, [.writeDiv (!s.tickDiv), .testDiv])
  | .writeDiv v => (s.putTickDiv v, [])
  | .testDiv => (s, if isTick s then tickAccesses s.params else [])
  | .sampleRaw => (s, debounceAccesses s.params.buttonOrder s.btnRaw)
  | .testCnt i raw => (s, [if s.btnCnt[i] ≠ 0 then .readCnt i else .compareLevel i raw])
  | .readCnt i => (s, [.writeCnt i (s.btnCnt[i] - 1)])
  | .writeCnt i v => (s.putBtnCnt i v, [])
  | .compareLevel i raw =>
    (s, if raw = bitOf s.btnState i then [] else acceptAccesses i raw s.params.debounceTicks)
  | .readLevels i raw => (s, [.writeLevels (setBit s.btnState i raw)])
  | .writeLevels v => (s.putBtnState v, [])
  | .readRise i => (s, [.writeRise (setBit s.btnRise i true)])
  | .writeRise v => (s.putBtnRise v, [])
  | .readFall i => (s, [.writeFall (setBit s.btnFall i true)])
  | .writeFall v => (s.putBtnFall v, [])
  | .readOutput c => (s, [.testBelow c s.pwmLevel[c]])
  | .testBelow c cur =>
    (s, [if cur < s.pwmTarget[c] then .writeOutput c (cur + 1) else .testAbove c cur])
  | .testAbove c cur => (s, if s.pwmTarget[c] < cur then [.writeOutput c (cur - 1)] else [])
  | .writeOutput c v => (s.putPwmLevel c v, [])
  | .readPhase byte =>
    (s, match s.phase with
        | .awaitReg => [.writeSel byte, .writePhase .awaitData]
        | .awaitData => [.writePend byte, .readTarget, .writePhase .awaitReg])
  | .writeSel v => (s.putSel v, [])
  | .writePend v => (s.putPend v, [])
  | .readTarget => (s, [.readPend s.sel])
  | .readPend reg => (s, memWriteAccesses reg s.pend)
  | .writePhase p => (s.putPhase p, [])
  | .writeFreq c v => (s.putPwmFreq c v, [])
  | .writePrescA v => (s.putPrescA v, [])
  | .writePrescB v => (s.putPrescB v, [])
  | .writeOcEn c v => (s.putOcEn c v, [])
  | .writeDuty c v => (s.putPwmTarget c v, [])
  | .writeOut v => (s.putOutPort v, [])
  | .readSel => (s, [.readReg s.sel])
  | .readReg addr => (s, clearAccesses addr ++ [.writePhase .awaitReg, .reply (regData addr s)])
  | .reply d => (s.emit (.txData d), [])

/-! ### Operations in progress -/

/-- The event source of a row (R235): none for RESET, INIT, the environment's BTN and the procedures. -/
def Instr.source (i : Instr) : Option Source :=
  match i with
  | .wfreq0 _ => some .bus
  | .wduty0 _ => some .bus
  | .wfreq1 _ => some .bus
  | .wduty1 _ => some .bus
  | .wfreq2 _ => some .bus
  | .wduty2 _ => some .bus
  | .wout _ => some .bus
  | .wign _ _ => some .bus
  | .rana _ => some .bus
  | .rbtn => some .bus
  | .rfall => some .bus
  | .rrise => some .bus
  | .rzero _ => some .bus
  | .rxsel _ => some .bus
  | .rxdat _ => some .bus
  | .reset => none
  | .init => none
  | .tov => some .tick
  | .adcDone _ => some .scanner
  | .btn _ => none
  | .rx _ => some .bus
  | .rq => some .bus
  | .tick => none
  | .debounce => none
  | .integrate => none
  | .setfreq _ _ => none
  | .setduty _ _ => none
  | .dispatch _ _ => none

/-- The accesses an event's operation begins with. A W2 is two RX one after the other (R90). -/
def openingAccesses (i : Instr) : List Access :=
  match i with
  | .wfreq0 val => [.readPhase 0x40, .readPhase val]
  | .wduty0 val => [.readPhase 0x41, .readPhase val]
  | .wfreq1 val => [.readPhase 0x42, .readPhase val]
  | .wduty1 val => [.readPhase 0x43, .readPhase val]
  | .wfreq2 val => [.readPhase 0x44, .readPhase val]
  | .wduty2 val => [.readPhase 0x45, .readPhase val]
  | .wout val => [.readPhase 0x60, .readPhase val]
  | .wign reg val => [.readPhase reg, .readPhase val]
  | .rana _ => [.readSel]
  | .rbtn => [.readSel]
  | .rfall => [.readSel]
  | .rrise => [.readSel]
  | .rzero _ => [.readSel]
  | .rxsel reg => [.readPhase reg]
  | .rxdat val => [.readPhase val]
  | .reset => []
  | .init => []
  | .tov => [.readDiv]
  | .adcDone result => [.readMux result]
  | .btn _ => []
  | .rx byte => [.readPhase byte]
  | .rq => [.readSel]
  | .tick => []
  | .debounce => []
  | .integrate => []
  | .setfreq _ _ => []
  | .setduty _ _ => []
  | .dispatch _ _ => []

/-- The operation an event starts; none for what is taken whole. -/
def activationOf (i : Instr) : Option Activation :=
  (Instr.source i).map fun source => { source := source, todo := openingAccesses i }

/-- The operation after the accesses still due, none when there are none. -/
def Activation.next (source : Source) (todo : List Access) : Option Activation :=
  match todo with
  | [] => none
  | a :: rest => some { source := source, todo := a :: rest }

/-- The operation in progress makes its next access. -/
def advance (a : Activation) (s : State) : State :=
  match a.todo with
  | [] => s.putInflight none
  | op :: rest => (op.run s).1.putInflight (Activation.next a.source ((op.run s).2 ++ rest))

/-- An operation begins: it has a step exactly where the atomic operation has one. -/
def beginOperation (i : Instr) (s : State) : Host.Outcome State Fault Refusal :=
  match activationOf i with
  | none => exec i s
  | some a =>
    match exec i s with
    | .next _ => .next (s.putInflight (some a))
    | .fault r => .fault r
    | .refused r => .refused r

/-- `n` accesses of a list, with no other operation between them: the state and the accesses left. -/
def runAccesses : Nat → List Access → State → State × List Access
  | 0, todo, s => (s, todo)
  | _ + 1, [], s => (s, [])
  | n + 1, op :: rest, s => runAccesses n ((op.run s).2 ++ rest) (op.run s).1

end Sys2Proof.Machine
end

