-- ==== Sys2Proof/Machine/Deliver.lean ====
section
/-! DEFINITION. How an event is taken from the environment and read as a row of the table, in both
settings of PREEMPT; and how a table row's bits are placed so that the next step takes them. -/

namespace Sys2Proof.Machine

/-- The encoding of what the environment delivers: an R1's opcode is `sel` (R92), a B1 byte is read by
`phase` (R93). -/
def encodingOf (st : Stimulus) (s : State) : Option Encoding :=
  match st with
  | .word w => some (.ev w)
  | .write w => some (.w2 w)
  | .byte b => some (.b1 s.phase b)
  | .read => some (.r1 s.sel)
  | .adcDone result => some (.adc result)
  | .pass => none

/-- The stimulus at the head of the inbox is taken. -/
def State.takeStimulus (s : State) : State := s.putInbox s.inbox.tail

/-- With no operation in progress: the next event is one atomic operation (R7, R74), or, under PREEMPT,
begins as one. With no event the block waits and nothing changes (R5, R252;
notes/assumptions/22.md). -/
def stepIdle (s : State) : Host.Outcome State Fault Refusal :=
  match s.inbox with
  | [] => .next s
  | st :: _ =>
    match encodingOf st s with
    | none => .next s.takeStimulus
    | some e =>
      match decode e with
      | .rejected (.noStimulus kind) => .refused (.noStimulus kind)
      | .instr i => if s.params.preempt then beginOperation i s.takeStimulus else exec i s.takeStimulus

/-- With an operation in progress (R76): an event of another source occurs now, whole; an event of the
same source waits, since no handler is re-entered (R242; DESIGN CHOICE, notes/assumptions/14.md). -/
def stepBusy (a : Activation) (s : State) : Host.Outcome State Fault Refusal :=
  match s.inbox with
  | [] => .next (advance a s)
  | st :: _ =>
    match encodingOf st s with
    | none => .next (advance a s.takeStimulus)
    | some e =>
      match decode e with
      | .rejected (.noStimulus kind) => .refused (.noStimulus kind)
      | .instr i =>
        if Instr.source i = some a.source then .next (advance a s) else exec i s.takeStimulus

/-- One step. -/
def runStep (s : State) : Host.Outcome State Fault Refusal :=
  match s.inflight with
  | none => stepIdle s
  | some a => stepBusy a s

/-- The environment delivers a stimulus next, to a block with no operation in progress. -/
def State.deliverNext (st : Stimulus) (s : State) : State :=
  (s.putInbox (st :: s.inbox)).putInflight none

/-- The stimulus word is delivered: for an event that is delivered only after INIT (R263) the block is
started, for INIT it is not, and a completed conversion was requested (R121). -/
def State.placeEvent (w : Word) (s : State) : State :=
  if kindOf w = 0x0 ∨ kindOf w = 0x4 then s.deliverNext (.word w)
  else if kindOf w = 0x1 then (s.deliverNext (.word w)).putEnabled false
  else if kindOf w = 0x3 then ((s.deliverNext (.word w)).putEnabled true).putAdcBusy true
  else (s.deliverNext (.word w)).putEnabled true

/-- An encoded operation is placed where the next step takes it: in the inbox, and for an R1 in `sel`,
for a B1 in `phase`. -/
def State.placeEncoding (e : Encoding) (s : State) : State :=
  match e with
  | .w2 w => (s.deliverNext (.write w)).putEnabled true
  | .r1 sel => ((s.deliverNext .read).putSel sel).putEnabled true
  | .b1 phase byte => ((s.deliverNext (.byte byte)).putPhase phase).putEnabled true
  | .ev w => s.placeEvent w
  | .adc result => ((s.deliverNext (.adcDone result)).putEnabled true).putAdcBusy true

end Sys2Proof.Machine
end

