-- ==== Sys2Proof/Machine/Step.lean ====
section
/-! DEFINITION. One step of the machine, and the placing of a table row's bits. -/

namespace Sys2Proof.Machine

/-- One step: the next event, one atomic operation (R7). -/
def step (s : State) : Host.Outcome State Fault Refusal := runStep s

/-- `s` with the table row's bits placed so that the next step takes them (DESIGN CHOICE,
notes/assumptions/2.md). -/
def State.withFetchWord (s : State) (nbits w : Nat) : State :=
  match tableEncoding nbits w with
  | none => s
  | some e => s.placeEncoding e

end Sys2Proof.Machine
end

