-- ==== Sys2Proof/Machine/Ports.lean ====
section
/-! DEFINITION. The output ports (spec/10_state.md R43), each the continuous value of a state register.
The event ports `adc_start` and `bus_tx_data` are the events of `State.outbox`. -/

namespace Sys2Proof.Machine

/-- The levels on the output ports (R43, R246). -/
structure Ports where
  adcMux : BitVec 4
  prescAOut : BitVec 3
  prescBOut : BitVec 3
  /-- `oc_en[2..0]`: bit c is channel c. -/
  ocEnOut : BitVec 3
  pwmLevelOut : Vector Byte 3
  outPortOut : Byte
  deriving DecidableEq, Repr

/-- What drives each output port (R43). -/
def State.ports (s : State) : Ports where
  adcMux := s.mux
  prescAOut := s.prescA
  prescBOut := s.prescB
  ocEnOut := BitVec.ofBool s.ocEn[2] ++ BitVec.ofBool s.ocEn[1] ++ BitVec.ofBool s.ocEn[0]
  pwmLevelOut := s.pwmLevel
  outPortOut := s.outPort

/-- The byte on `bus_tx_data`: the latest reply. -/
def State.lastReply (s : State) : Option Byte :=
  s.outbox.findSome? fun e =>
    match e with
    | .txData d => some d
    | .adcStart _ => none

end Sys2Proof.Machine
end

