-- ==== Sys2Proof/Safety.lean ====
section
/-! DEFINITION. What a good state is, in the terms the claims use: the invariants the spec states
(spec/10_state.md R28, R30, R34, R36, spec/41_tick_debouncer.md R153), the kinds of row that R50 names as
writers, and runs of procedures. -/

namespace Sys2Proof.Machine

/-! ### Invariants -/

/-- The invariant that ties logical and hardware PWM state (R36). -/
structure State.PwmOk (s : State) : Prop where
  prescA : s.prescA = s.pwmFreq[0]
  prescB : remap (s.pwmFreq[1].zeroExtend 8) = some s.prescB
  shared : s.pwmFreq[1] = s.pwmFreq[2]
  enable0 : s.ocEn[0] = (s.pwmFreq[0] != 0)
  enable1 : s.ocEn[1] = (s.pwmFreq[1] != 0)
  enable2 : s.ocEn[2] = (s.pwmFreq[1] != 0)

/-- The range of the countdowns (R28, R153). -/
def State.CntOk (s : State) : Prop := ∀ i : Fin 8, s.btnCnt[i] ≤ s.params.debounceTicks

/-- The block takes its operations atomically: PREEMPT is false (R74), so none is in progress. -/
structure State.Atomic (s : State) : Prop where
  preempt : s.params.preempt = false
  inflight : s.inflight = none

/-- The states of the atomic block: a conversion is in flight exactly from INIT on (R24, R124). -/
structure State.Inv (s : State) : Prop where
  params : s.params.wf = true
  atomic : s.Atomic
  busy : s.adcBusy = s.enabled
  pwm : s.PwmOk
  cnt : s.CntOk

/-- A code a channel of the shared group may hold: never 3 or 5 (R30). -/
def sharedCode (v : BitVec 3) : Bool := v != 3 && v != 5

/-- An access that writes the shared group writes a legal code (R30, R34). -/
def Access.sharedOk (a : Access) : Bool :=
  match a with
  | .writeFreq c v => c == 0 || sharedCode v
  | .writePrescB v => decide (v ≤ 5)
  | _ => true

/-- The shared prescaler and its codes are legal, and so is every write of them still due, in both
settings of PREEMPT (R30, R34, R79). -/
structure State.SharedOk (s : State) : Prop where
  freq1 : sharedCode s.pwmFreq[1] = true
  freq2 : sharedCode s.pwmFreq[2] = true
  prescB : s.prescB ≤ 5
  due : ∀ a, s.inflight = some a → ∀ op ∈ a.todo, op.sharedOk = true

/-! ### Rows by what they do -/

/-- The writers of R50 and the procedures they call. -/
inductive Kind where
  /-- RX and the rows made of it: the formats W2 and B1. -/
  | receive
  /-- RQ and the rows of format R1. -/
  | request
  | reset
  | init
  | overflow
  | conversion
  /-- The environment's BTN. -/
  | level
  | tickProc
  | debounceProc
  | integrateProc
  /-- SETFREQ, SETDUTY and DISPATCH. -/
  | writeProc
  deriving DecidableEq, Repr

/-- The kind of a row. -/
def Instr.kind (i : Instr) : Kind :=
  match i with
  | .wfreq0 _ => .receive
  | .wduty0 _ => .receive
  | .wfreq1 _ => .receive
  | .wduty1 _ => .receive
  | .wfreq2 _ => .receive
  | .wduty2 _ => .receive
  | .wout _ => .receive
  | .wign _ _ => .receive
  | .rana _ => .request
  | .rbtn => .request
  | .rfall => .request
  | .rrise => .request
  | .rzero _ => .request
  | .rxsel _ => .receive
  | .rxdat _ => .receive
  | .reset => .reset
  | .init => .init
  | .tov => .overflow
  | .adcDone _ => .conversion
  | .btn _ => .level
  | .rx _ => .receive
  | .rq => .request
  | .tick => .tickProc
  | .debounce => .debounceProc
  | .integrate => .integrateProc
  | .setfreq _ _ => .writeProc
  | .setduty _ _ => .writeProc
  | .dispatch _ _ => .writeProc

/-- The register that the write transaction of a byte pair dispatches to: the first byte of the pair, or the
register already selected when a select stands open (R191, R214). -/
def State.pairTarget (s : State) (reg : Byte) : Byte :=
  match s.phase with
  | .awaitReg => reg
  | .awaitData => s.sel

/-- The register a row dispatches a value to, if it dispatches one (R194). -/
def Instr.target (i : Instr) (s : State) : Option Byte :=
  match i with
  | .wfreq0 _ => some (s.pairTarget 0x40)
  | .wduty0 _ => some (s.pairTarget 0x41)
  | .wfreq1 _ => some (s.pairTarget 0x42)
  | .wduty1 _ => some (s.pairTarget 0x43)
  | .wfreq2 _ => some (s.pairTarget 0x44)
  | .wduty2 _ => some (s.pairTarget 0x45)
  | .wout _ => some (s.pairTarget 0x60)
  | .wign reg _ => some (s.pairTarget reg)
  | .rana _ => none
  | .rbtn => none
  | .rfall => none
  | .rrise => none
  | .rzero _ => none
  | .rxsel _ => none
  | .rxdat _ => some s.sel
  | .reset => none
  | .init => none
  | .tov => none
  | .adcDone _ => none
  | .btn _ => none
  | .rx _ => if s.phase = .awaitData then some s.sel else none
  | .rq => none
  | .tick => none
  | .debounce => none
  | .integrate => none
  | .setfreq _ _ => none
  | .setduty _ _ => none
  | .dispatch reg _ => some reg

/-- The row calls SETFREQ (R65, R161). -/
def Instr.callsSetfreq (i : Instr) (s : State) : Prop :=
  (∃ ch code, i = .setfreq ch code) ∨ Instr.target i s ∈ [some 0x40, some 0x42, some 0x44]

/-- The row calls SETDUTY (R65, R167). -/
def Instr.callsSetduty (i : Instr) (s : State) : Prop :=
  (∃ ch duty, i = .setduty ch duty) ∨ Instr.target i s ∈ [some 0x41, some 0x43, some 0x45]

/-- The row the next step takes from the inbox, if any. -/
def State.nextInstr (s : State) : Option Instr :=
  match s.inbox with
  | [] => none
  | st :: _ =>
    match encodingOf st s with
    | none => none
    | some e =>
      match decode e with
      | .instr i => some i
      | .rejected _ => none

/-! ### Runs and outcomes -/

/-- Ticks with the given levels of `btn_raw`, one tick a level (R137, R141). -/
def ticksUnder (raws : List Byte) (s : State) : State :=
  raws.foldl (fun t raw => tick (t.putBtnRaw raw)) s

/-- An outcome with its next state changed. -/
def mapNext (f : State → State) (o : Host.Outcome State Fault Refusal) :
    Host.Outcome State Fault Refusal :=
  match o with
  | .next t => .next (f t)
  | .fault r => .fault r
  | .refused r => .refused r

end Sys2Proof.Machine
end

