-- ==== Sys2Proof/Certificates/Slice0/Obligations.lean ====
section
/-! DEFINITION. The statements for the provers, each from the rules of spec/ its docstring cites. -/

open Sys2Proof Sys2Proof.Machine

/-! ### Encoding -/

/-- R91, R92, R93, R111: every well-formed operation that has an encoding is read back from it, with every
operand at every value. -/
def Obligations.EncodeThenDecode : Prop :=
  ∀ i : Instr, i.wf = true → ∀ e, encode i = some e → decode e = .instr i

/-- R107 (derived by the spec), R101, R102: every W2 word, every value of `sel` and every byte in each phase
is one well-formed operation, and the encoder gives back exactly its bits. A stimulus word that decodes is a
well-formed operation whose own word has the same kind and decodes to it; its spare payload bits are not
looked at (DEDUCED, notes/assumptions/13.md). -/
def Obligations.DecodeThenEncode : Prop :=
  (∀ w, (decodeW2 w).wf = true ∧ encode (decodeW2 w) = some (.w2 w)) ∧
  (∀ sel, (decodeR1 sel).wf = true ∧ encode (decodeR1 sel) = some (.r1 sel)) ∧
  (∀ p b, (decodeB1 p b).wf = true ∧ encode (decodeB1 p b) = some (.b1 p b)) ∧
  (∀ w i, decodeEv w = .instr i →
    i.wf = true ∧ ∃ w', encode i = some (.ev w') ∧ kindOf w' = kindOf w ∧ decodeEv w' = .instr i)

/-- R101, R104, R105: which first byte selects which write. -/
def Obligations.WriteAddressesSelectRows : Prop :=
  ∀ reg val : Byte,
    decodeW2 (reg ++ val) =
      (match reg.toNat with
      | 0x40 => .wfreq0 val
      | 0x41 => .wduty0 val
      | 0x42 => .wfreq1 val
      | 0x43 => .wduty1 val
      | 0x44 => .wfreq2 val
      | 0x45 => .wduty2 val
      | 0x60 => .wout val
      | _ => .wign reg val)

/-- R102, R95, R104: which value of `sel` selects which read; 0x00 to 0x07 by the range. -/
def Obligations.ReadAddressesSelectRows : Prop :=
  ∀ sel : Byte,
    (sel.toNat ≤ 7 → ∃ n : BitVec 3, n.toNat = sel.toNat ∧ decodeR1 sel = .rana n) ∧
    (sel = 0x20 → decodeR1 sel = .rbtn) ∧ (sel = 0x21 → decodeR1 sel = .rfall) ∧
    (sel = 0x22 → decodeR1 sel = .rrise) ∧
    (8 ≤ sel.toNat → sel ≠ 0x20 → sel ≠ 0x21 → sel ≠ 0x22 → decodeR1 sel = .rzero sel)

/-- R91, R93, R95, R111: words written out from the spec's examples and tables. -/
def Obligations.WrittenOutWordsDecode : Prop :=
  decode (.w2 0b0100000000000010) = .instr (.wfreq0 0x02) ∧
  decode (.w2 0b0100000110000000) = .instr (.wduty0 0x80) ∧
  decode (.w2 0b0110000010101010) = .instr (.wout 0xAA) ∧
  decode (.w2 0b1001100100000001) = .instr (.wign 0x99 0x01) ∧
  decode (.r1 0b00000011) = .instr (.rana 3) ∧
  decode (.r1 0b00100001) = .instr .rfall ∧
  decode (.b1 .awaitReg 0b01100000) = .instr (.rxsel 0x60) ∧
  decode (.b1 .awaitData 0b01100000) = .instr (.rxdat 0x60) ∧
  decode (.ev 0b0011001010100111) = .instr (.adcDone 0x2A7) ∧
  decode (.ev 0b0100000000000001) = .instr (.btn 0x01) ∧
  decode (.ev 0b0101000001000000) = .instr (.rx 0x40)

/-- R111, U14: a step that takes a stimulus word of kind 0x7 to 0xF refuses it by name, in both settings of
PREEMPT. -/
def Obligations.WordOfNoKindIsRefused : Prop :=
  ∀ (s : State) (w : Word) (rest : List Stimulus), s.inbox = .word w :: rest → 7 ≤ w.toNat / 4096 →
    step s = .refused (.noStimulus (w.extractLsb' 12 4))

/-! ### The step -/

/-- R5, R7: with no operation in progress and atomic operations, a step takes the next stimulus, reads it in
the state it finds, and is the meaning of the row it decodes to; the only thing the step adds is that the
stimulus has left the inbox. The inbox is the model's (notes/assumptions/1.md); that operations are atomic is
decision D3. -/
def Obligations.StepRunsDecodedEvent : Prop :=
  ∀ (s : State) (st : Stimulus) (rest : List Stimulus) (e : Encoding) (i : Instr),
    s.Atomic → s.inbox = st :: rest → encodingOf st s = some e → decode e = .instr i →
    step s = exec i { s with inbox := rest }

/-- R5, R252: with no event due and no operation in progress nothing changes (decision D28,
notes/assumptions/22.md). -/
def Obligations.StepWaitsWithoutEvent : Prop :=
  ∀ s : State, s.inflight = none → s.inbox = [] → step s = .next s

/-- The placing of a table row's bits: the next step runs the row they decode to, and the stimuli that were
due before stay due. The model's own convention (notes/assumptions/2.md). -/
def Obligations.PlacedWordRunsNext : Prop :=
  ∀ (s : State) (nbits w : Nat) (i : Instr), s.params.preempt = false →
    decodeTableWord nbits w = some i →
    step (s.withFetchWord nbits w) = exec i { s.withFetchWord nbits w with inbox := s.inbox }

/-! ### Reset and startup -/

/-- R49, the rows marked "stated": the button channels are all zero and the phase is AwaitReg, whatever the
state before. -/
def Obligations.ResetLeavesStatedValues : Prop :=
  ∀ s : State, ∃ t, exec .reset s = .next t ∧ t.btnState = 0 ∧ t.btnFall = 0 ∧ t.btnRise = 0 ∧
    (∀ i : Fin 8, t.btnCnt[i] = 0) ∧ t.phase = .awaitReg

/-- R260, R49: the whole state after RESET, with the values that are decisions of the spec (D7 to D12, D15;
notes/assumptions/8.md). The parameters and the level of `btn_raw` stay, since they are no state of the block
(R21); that they stand in State, that the inbox and the trace of what went out stay too, and that RESET
abandons an operation in progress under PREEMPT, is the model's choice (DESIGN CHOICE, notes/assumptions/1.md,
4.md, 27.md and 14.md). -/
def Obligations.ResetLeavesDecidedValues : Prop :=
  ∀ s : State, ∃ t, exec .reset s = .next t ∧
    (∀ i : Fin 8, t.ana[i] = 0) ∧ t.mux = 0 ∧ t.adcBusy = false ∧
    t.btnState = 0 ∧ t.btnFall = 0 ∧ t.btnRise = 0 ∧ (∀ i : Fin 8, t.btnCnt[i] = 0) ∧
    t.tickDiv = false ∧
    (∀ c : Fin 3, t.pwmFreq[c] = 0 ∧ t.pwmTarget[c] = 0 ∧ t.pwmLevel[c] = 0 ∧ t.ocEn[c] = false) ∧
    t.prescA = 0 ∧ t.prescB = 0 ∧ t.outPort = 0 ∧ t.phase = .awaitReg ∧ t.sel = 0 ∧ t.pend = 0 ∧
    t.enabled = false ∧ t.inflight = none ∧
    t.params = s.params ∧ t.btnRaw = s.btnRaw ∧ t.inbox = s.inbox ∧ t.outbox = s.outbox

/-- R262 (decision D15): INIT before it has been done enables the events and requests the first conversion on
the input `mux`; nothing else changes. -/
def Obligations.InitStartsScanning : Prop :=
  ∀ s : State, s.enabled = false →
    exec .init s =
      .next { s with enabled := true, adcBusy := true, outbox := .adcStart s.mux :: s.outbox }

/-- R263, R121, U11 (decision D15): before INIT no run-time event has a step; ADC_DONE has none without a
conversion in flight; a second INIT has none. -/
def Obligations.UndeliverableEventsHaveNoStep : Prop :=
  (∀ (i : Instr) (s : State), Instr.kind i ∈ [Kind.receive, .request, .overflow, .conversion] →
    s.enabled = false → exec i s = .fault .notEnabled) ∧
  (∀ (result : Nat) (s : State), s.enabled = true → s.adcBusy = false →
    exec (.adcDone result) s = .fault .noConversion) ∧
  (∀ s : State, s.enabled = true → exec .init s = .fault .alreadyInit)

/-! ### The scanner -/

/-- R121, R123: store the high eight bits for an input 0 to 7, advance modulo 16, request the next conversion
with the new selector showing; nothing else changes. That the high bits are cut off without rounding is
decision D5, that an input 8 to 15 is stored nowhere is decision D6. -/
def Obligations.ConversionStoresAndAdvances : Prop :=
  ∀ (result : Nat) (s : State), s.enabled = true → s.adcBusy = true →
    ∃ t, exec (.adcDone result) s = .next t ∧
      t = { s with ana := t.ana, mux := t.mux, outbox := .adcStart t.mux :: s.outbox } ∧
      t.mux.toNat = (s.mux.toNat + 1) % 16 ∧
      ∀ i : Fin 8, t.ana[i].toNat =
        if s.mux.toNat = i.val then result / 2 ^ (s.params.adcBits - 8) % 256 else s.ana[i].toNat

/-- R127: sixteen conversions from any selector end with the same selector and leave in each analog register
the high eight bits of the result of its own input. The spec marks it as derived; it rests on D5 and D6. -/
def Obligations.SweepStoresEachChannelOnce : Prop :=
  ∀ (s : State) (results : List Nat), s.Atomic → s.enabled = true → s.adcBusy = true →
    results.length = 16 → s.inbox = results.map .adcDone →
    ∃ t, Host.Core.run Sys2Proof.core 16 s = .next t ∧ t.mux = s.mux ∧
      ∀ i : Fin 8, t.ana[i].toNat =
        results.getD ((i.val + 16 - s.mux.toNat) % 16) 0 / 2 ^ (s.params.adcBits - 8) % 256

/-! ### The tick driver and the debouncer -/

/-- R135: toggle first, then TICK exactly when the toggled flag equals TICK_ACTIVE. Which value that is, is
decision D12; the statement holds for both. -/
def Obligations.OverflowTogglesThenTicks : Prop :=
  ∀ s : State, s.enabled = true →
    exec .tov s =
      .next (if (!s.tickDiv) = s.params.tickActive then tick { s with tickDiv := !s.tickDiv }
        else { s with tickDiv := !s.tickDiv })

/-- R136 (derived by the spec): a sequence of 2n overflows runs exactly n ticks and leaves the divider flag
as it was, whatever TICK_ACTIVE and the flag are. -/
def Obligations.TwoOverflowsRunOneTick : Prop :=
  ∀ (n : Nat) (s : State), s.Atomic → s.enabled = true →
    s.inbox = List.replicate (2 * n) (.word 0x2000) →
    Host.Core.run Sys2Proof.core (2 * n) s = .next (tick^[n] { s with inbox := [] })

/-- R137: TICK is DEBOUNCE, then INTEGRATE; the other order gives the same state. -/
def Obligations.TickIsDebounceThenRamp : Prop :=
  ∀ s : State, ∃ d e t, exec .tick s = .next t ∧
    exec .debounce s = .next d ∧ exec .integrate d = .next t ∧
    exec .integrate s = .next e ∧ exec .debounce e = .next t

/-- R140, R142, R143, R144, R145: what DEBOUNCE does to each channel, and that it changes nothing else. That
`raw[i]` is bit i of one sample of `btn_raw`, not inverted, is decision D13 (notes/assumptions/20.md). -/
def Obligations.DebounceStepsEachChannel : Prop :=
  ∀ s : State, ∃ t, exec .debounce s = .next t ∧
    t = { s with btnState := t.btnState, btnFall := t.btnFall, btnRise := t.btnRise
                 btnCnt := t.btnCnt } ∧
    ∀ i : Fin 8,
      if s.btnCnt[i] ≠ 0 then
        t.btnCnt[i].toNat + 1 = s.btnCnt[i].toNat ∧ bitOf t.btnState i = bitOf s.btnState i ∧
        bitOf t.btnFall i = bitOf s.btnFall i ∧ bitOf t.btnRise i = bitOf s.btnRise i
      else if bitOf s.btnRaw i = bitOf s.btnState i then
        t.btnCnt[i] = 0 ∧ bitOf t.btnState i = bitOf s.btnState i ∧
        bitOf t.btnFall i = bitOf s.btnFall i ∧ bitOf t.btnRise i = bitOf s.btnRise i
      else
        t.btnCnt[i] = s.params.debounceTicks ∧ bitOf t.btnState i = bitOf s.btnRaw i ∧
        bitOf t.btnFall i = (bitOf s.btnFall i || !bitOf s.btnRaw i) ∧
        bitOf t.btnRise i = (bitOf s.btnRise i || bitOf s.btnRaw i)

/-- R146 (with decision D14): a channel after DEBOUNCE depends on nothing but the same channel before it, its
bit of `btn_raw` and DEBOUNCE_TICKS. -/
def Obligations.ButtonChannelsAreIndependent : Prop :=
  ∀ (s s' t t' : State) (i : Fin 8), exec .debounce s = .next t → exec .debounce s' = .next t' →
    s.params.debounceTicks = s'.params.debounceTicks → bitOf s.btnRaw i = bitOf s'.btnRaw i →
    bitOf s.btnState i = bitOf s'.btnState i → bitOf s.btnFall i = bitOf s'.btnFall i →
    bitOf s.btnRise i = bitOf s'.btnRise i → s.btnCnt[i] = s'.btnCnt[i] →
    bitOf t.btnState i = bitOf t'.btnState i ∧ bitOf t.btnFall i = bitOf t'.btnFall i ∧
    bitOf t.btnRise i = bitOf t'.btnRise i ∧ t.btnCnt[i] = t'.btnCnt[i]

/-- R147, R148 (derived by the spec; the raw bit is used as it is read, decision D13): an accepted change
opens a window of DEBOUNCE_TICKS ticks in which the channel does not look at its input; on the next tick a
level that differs is accepted. -/
def Obligations.AcceptedChangeOpensWindow : Prop :=
  ∀ (s : State) (i : Fin 8) (first last : Byte) (window : List Byte),
    s.btnCnt[i] = 0 → bitOf first i ≠ bitOf s.btnState i →
    window.length = s.params.debounceTicks.toNat → bitOf last i ≠ bitOf first i →
    (∀ k ≤ window.length,
      let t := ticksUnder (first :: window.take k) s
      bitOf t.btnState i = bitOf first i ∧ t.btnCnt[i].toNat = window.length - k ∧
      bitOf t.btnRise i = (bitOf s.btnRise i || bitOf first i) ∧
      bitOf t.btnFall i = (bitOf s.btnFall i || !bitOf first i)) ∧
    (let t := ticksUnder (first :: window ++ [last]) s
     bitOf t.btnState i = bitOf last i ∧ t.btnCnt[i] = s.params.debounceTicks ∧
     bitOf t.btnRise i = true ∧ bitOf t.btnFall i = true)

/-- R110, R136, R141 (decisions D13 and D22): the stimuli BTN r, TOV, TOV are one tick that samples r; a
sequence of them runs the ticks of `ticksUnder`. -/
def Obligations.LevelAndTwoOverflowsAreOneTick : Prop :=
  ∀ (s : State) (raws : List Byte), s.Atomic → s.enabled = true →
    s.inbox = raws.flatMap (fun r => [.word (0x40#8 ++ r), .word 0x2000, .word 0x2000]) →
    Host.Core.run Sys2Proof.core (3 * raws.length) s =
      .next { ticksUnder raws s with inbox := [] }

/-- R109 (decision D22): BTN is the environment's: it sets the level of the port and changes no state of the
block. -/
def Obligations.BtnSetsThePortLevelOnly : Prop :=
  ∀ (raw : Byte) (s : State), exec (.btn raw) s = .next { s with btnRaw := raw }

/-- R141 (decision D13): `btn_raw` between ticks is never looked at: a row that runs no DEBOUNCE does the
same whatever the level is. -/
def Obligations.PortLevelSeenByDebounceOnly : Prop :=
  ∀ (i : Instr) (s : State) (raw : Byte),
    Instr.kind i ∉ [Kind.overflow, .tickProc, .debounceProc, .level] →
    exec i { s with btnRaw := raw } = mapNext (fun t => { t with btnRaw := raw }) (exec i s)

/-! ### The PWM controller -/

/-- R168: INTEGRATE moves each level one unit toward its target, for every channel, and changes nothing else.
-/
def Obligations.IntegrateStepsOneUnit : Prop :=
  ∀ s : State, ∃ t, exec .integrate s = .next t ∧ t = { s with pwmLevel := t.pwmLevel } ∧
    ∀ c : Fin 3,
      (s.pwmLevel[c].toNat < s.pwmTarget[c].toNat → t.pwmLevel[c].toNat = s.pwmLevel[c].toNat + 1) ∧
      (s.pwmTarget[c].toNat < s.pwmLevel[c].toNat → t.pwmLevel[c].toNat + 1 = s.pwmLevel[c].toNat) ∧
      (s.pwmLevel[c] = s.pwmTarget[c] → t.pwmLevel[c] = s.pwmLevel[c])

/-- R173 (derived by the spec): with the targets left alone, n ticks bring a level n units nearer and no
further than its target, so that it is there after exactly the distance and stays. -/
def Obligations.RampConvergesToTarget : Prop :=
  ∀ (s : State) (n : Nat) (c : Fin 3),
    (tick^[n] s).pwmTarget = s.pwmTarget ∧
    (tick^[n] s).pwmLevel[c].toNat =
      if s.pwmLevel[c].toNat ≤ s.pwmTarget[c].toNat then
        min (s.pwmLevel[c].toNat + n) s.pwmTarget[c].toNat
      else max (s.pwmLevel[c].toNat - n) s.pwmTarget[c].toNat

/-- R161, R162, R163, R164, R165, R166: what SETFREQ does for every channel number and every code. That the
codes 0, 1 and 2 pass the remap unchanged is the spec's own inference (R163). -/
def Obligations.SetfreqStoresOrRejects : Prop :=
  ∀ (ch : Nat) (code : Byte) (s : State),
    exec (.setfreq ch code) s =
      .next (if 3 ≤ ch ∨ 7 < code.toNat ∨ (0 < ch ∧ (code = 3 ∨ code = 5)) then s
        else if ch = 0 then
          { s with pwmFreq := s.pwmFreq.set 0 (code.setWidth 3), prescA := code.setWidth 3
                   ocEn := s.ocEn.set 0 (decide (code ≠ 0)) }
        else
          { s with pwmFreq := (s.pwmFreq.set 1 (code.setWidth 3)).set 2 (code.setWidth 3)
                   prescB := BitVec.ofNat 3
                     (if code.toNat ≤ 2 then code.toNat
                      else if code.toNat = 4 then 3 else code.toNat - 2)
                   ocEn := (s.ocEn.set 1 (decide (code ≠ 0))).set 2 (decide (code ≠ 0)) })

/-- R162: a rejected SETFREQ changes no state at all; the tests are on the whole byte; through the bus the
channel is 0, 1 or 2; codes 3 and 5 are accepted for channel 0. -/
def Obligations.RejectedSetfreqChangesNothing : Prop :=
  (∀ (ch : Nat) (code : Byte) (s : State),
    3 ≤ ch ∨ 8 ≤ code.toNat ∨ (0 < ch ∧ (code = 3 ∨ code = 5)) → exec (.setfreq ch code) s = .next s) ∧
  (∀ reg : Byte, 0x40 ≤ reg.toNat → reg.toNat ≤ 0x45 → channelOf reg < 3) ∧
  (∀ s : State, ∃ t u, exec (.setfreq 0 3) s = .next t ∧ t.pwmFreq[0] = 3 ∧
    exec (.setfreq 0 5) s = .next u ∧ u.pwmFreq[0] = 5)

/-- R167: SETDUTY stores the target of its channel unconditionally and writes nothing else. -/
def Obligations.SetdutyStoresTarget : Prop :=
  ∀ (ch : Fin 3) (duty : Byte) (s : State),
    exec (.setduty ch.val duty) s = .next { s with pwmTarget := s.pwmTarget.set ch duty }

/-- U3 (decision D18): SETDUTY of a channel the block does not have is refused by name. -/
def Obligations.SetdutyRefusesMissingChannel : Prop :=
  ∀ (ch : Nat) (duty : Byte) (s : State), 3 ≤ ch →
    exec (.setduty ch duty) s = .refused (.dutyChannel ch)

/-- R71 (derived by the spec): the same SETFREQ, SETDUTY or OUT write a second time leaves the state as after
the first. -/
def Obligations.RepeatedWriteChangesNothing : Prop :=
  (∀ (reg val : Byte) (s t : State), exec (.dispatch reg val) s = .next t →
    exec (.dispatch reg val) t = .next t) ∧
  (∀ (ch : Nat) (v : Byte) (s t : State), exec (.setfreq ch v) s = .next t →
    exec (.setfreq ch v) t = .next t) ∧
  (∀ (ch : Nat) (v : Byte) (s t : State), exec (.setduty ch v) s = .next t →
    exec (.setduty ch v) t = .next t)

/-! ### The responder: writes -/

/-- R65, R194: DISPATCH runs the procedure of the register map for each writable address, and changes nothing
for any other. -/
def Obligations.DispatchFollowsRegisterMap : Prop :=
  ∀ (reg val : Byte) (s : State), ∃ t, exec (.dispatch reg val) s = .next t ∧
    (reg = 0x40 → exec (.setfreq 0 val) s = .next t) ∧ (reg = 0x41 → exec (.setduty 0 val) s = .next t) ∧
    (reg = 0x42 → exec (.setfreq 1 val) s = .next t) ∧ (reg = 0x43 → exec (.setduty 1 val) s = .next t) ∧
    (reg = 0x44 → exec (.setfreq 2 val) s = .next t) ∧ (reg = 0x45 → exec (.setduty 2 val) s = .next t) ∧
    (reg = 0x60 → t = { s with outPort := val }) ∧
    (¬ (0x40 ≤ reg.toNat ∧ reg.toNat ≤ 0x45) → reg ≠ 0x60 → t = s)

/-- R195: the whole effect of `[0x40, val]` from AwaitReg, accepted and rejected. -/
def Obligations.Wfreq0SetsChannelZero : Prop :=
  ∀ (val : Byte) (s : State), s.enabled = true → s.phase = .awaitReg →
    exec (.wfreq0 val) s =
      .next (if val.toNat ≤ 7 then
          { s with sel := 0x40, pend := val, pwmFreq := s.pwmFreq.set 0 (val.setWidth 3)
                   prescA := val.setWidth 3, ocEn := s.ocEn.set 0 (decide (val ≠ 0)) }
        else { s with sel := 0x40, pend := val })

/-- R196, R198, R200: the whole effect of the three duty writes from AwaitReg. -/
def Obligations.DutyWritesSetOneTarget : Prop :=
  ∀ (val : Byte) (s : State), s.enabled = true → s.phase = .awaitReg →
    exec (.wduty0 val) s =
      .next { s with sel := 0x41, pend := val, pwmTarget := s.pwmTarget.set 0 val } ∧
    exec (.wduty1 val) s =
      .next { s with sel := 0x43, pend := val, pwmTarget := s.pwmTarget.set 1 val } ∧
    exec (.wduty2 val) s =
      .next { s with sel := 0x45, pend := val, pwmTarget := s.pwmTarget.set 2 val }

/-- R197, R199, R165: the whole effect of `[0x42, val]` and `[0x44, val]` from AwaitReg: the same five
assignments for the accepted codes, none for 3, 5 and 8 to 255. That the codes 0, 1 and 2 pass the remap
unchanged is the spec's own inference (R163). -/
def Obligations.SharedFreqWritesSetBothChannels : Prop :=
  ∀ (val : Byte) (s : State), s.enabled = true → s.phase = .awaitReg →
    let written (reg : Byte) : State :=
      if val ∈ [0, 1, 2, 4, 6, 7] then
        { s with sel := reg, pend := val
                 pwmFreq := (s.pwmFreq.set 1 (val.setWidth 3)).set 2 (val.setWidth 3)
                 prescB := BitVec.ofNat 3
                   (if val.toNat ≤ 2 then val.toNat else if val.toNat = 4 then 3 else val.toNat - 2)
                 ocEn := (s.ocEn.set 1 (decide (val ≠ 0))).set 2 (decide (val ≠ 0)) }
      else { s with sel := reg, pend := val }
    exec (.wfreq1 val) s = .next (written 0x42) ∧ exec (.wfreq2 val) s = .next (written 0x44)

/-- R201: the whole effect of `[0x60, val]` from AwaitReg; the port shows the byte when the operation ends.
-/
def Obligations.WoutSetsTheOutputPort : Prop :=
  ∀ (val : Byte) (s : State), s.enabled = true → s.phase = .awaitReg →
    ∃ t, exec (.wout val) s = .next t ∧ t = { s with sel := 0x60, pend := val, outPort := val } ∧
      t.ports.outPortOut = val

/-- R202: a write of any other register changes `sel` and `pend` only. -/
def Obligations.WignChangesOnlyProtocolState : Prop :=
  ∀ (reg val : Byte) (s : State), s.enabled = true → s.phase = .awaitReg →
    ¬ (0x40 ≤ reg.toNat ∧ reg.toNat ≤ 0x45) → reg ≠ 0x60 →
    exec (.wign reg val) s = .next { s with sel := reg, pend := val }

/-- R90, R214, R271 (derived by the spec, with decision D16): every write transaction is its two bytes
received one after the other, in either phase; with a select left open the first byte is data for the old
register and the second selects. -/
def Obligations.WriteTransactionIsTwoReceivedBytes : Prop :=
  ∀ (reg val : Byte) (s : State), s.enabled = true →
    ∃ m t, exec (.rx reg) s = .next m ∧ exec (.rx val) m = .next t ∧
      exec (decodeW2 (reg ++ val)) s = .next t ∧
      (s.phase = .awaitReg → t.phase = .awaitReg ∧ t.sel = reg ∧ t.pend = val) ∧
      (s.phase = .awaitData → t.phase = .awaitData ∧ t.sel = val ∧ t.pend = reg ∧
        exec (.dispatch s.sel reg) { s with pend := reg, sel := val } = .next t)

/-- R192: a byte received in AwaitReg is stored in `sel`, whatever it is; nothing else changes but the phase.
-/
def Obligations.RxselStoresTheAddress : Prop :=
  ∀ (reg : Byte) (s : State), s.enabled = true → s.phase = .awaitReg →
    exec (.rxsel reg) s = .next { s with sel := reg, phase := .awaitData } ∧
    exec (.rx reg) s = exec (.rxsel reg) s

/-- R193, R194: a byte received in AwaitData is stored in `pend` and dispatched to the register `sel` holds,
and the phase returns to AwaitReg whatever the dispatch did; `sel` is not changed. -/
def Obligations.RxdatDispatchesToSel : Prop :=
  ∀ (val : Byte) (s : State), s.enabled = true → s.phase = .awaitData →
    ∃ d, exec (.dispatch s.sel val) { s with pend := val } = .next d ∧
      exec (.rxdat val) s = .next { d with phase := .awaitReg } ∧ d.sel = s.sel ∧
      exec (.rx val) s = exec (.rxdat val) s

/-- R211, R262: what RX, RQ, TOV, ADC_DONE, RESET and INIT do to `phase`, `sel` and `pend`; that RESET leaves
`sel` and `pend` at 0x00 is decision D11, that INIT is an event decision D15. -/
def Obligations.PhaseTransitions : Prop :=
  ∀ (s t : State),
    (∀ b, exec (.rx b) s = .next t →
      (s.phase = .awaitReg → t.phase = .awaitData ∧ t.sel = b ∧ t.pend = s.pend) ∧
      (s.phase = .awaitData → t.phase = .awaitReg ∧ t.sel = s.sel ∧ t.pend = b)) ∧
    (exec .rq s = .next t → t.phase = .awaitReg ∧ t.sel = s.sel ∧ t.pend = s.pend) ∧
    (exec .tov s = .next t → t.phase = s.phase ∧ t.sel = s.sel ∧ t.pend = s.pend) ∧
    (∀ r, exec (.adcDone r) s = .next t → t.phase = s.phase ∧ t.sel = s.sel ∧ t.pend = s.pend) ∧
    (exec .reset s = .next t → t.phase = .awaitReg ∧ t.sel = 0 ∧ t.pend = 0) ∧
    (exec .init s = .next t → t.phase = s.phase ∧ t.sel = s.sel ∧ t.pend = s.pend)

/-! ### The responder: reads -/

/-- R204, R205: the reads without a side effect reply their register and close the phase. -/
def Obligations.PlainReadsReplyTheirRegister : Prop :=
  ∀ s : State, s.enabled = true →
    (∀ n : BitVec 3, s.sel.toNat = n.toNat →
      exec (.rana n) s =
        .next { s with phase := .awaitReg, outbox := .txData s.ana[n.toFin] :: s.outbox }) ∧
    (s.sel = 0x20 →
      exec .rbtn s = .next { s with phase := .awaitReg, outbox := .txData s.btnState :: s.outbox })

/-- R206, R207: the edge reads reply their bitmap as it stands before the read, then clear all of it; the
other bitmaps are not touched. -/
def Obligations.EdgeReadsReplyAndClear : Prop :=
  ∀ s : State, s.enabled = true →
    (s.sel = 0x21 →
      exec .rfall s = .next { s with phase := .awaitReg, btnFall := 0
                                     outbox := .txData s.btnFall :: s.outbox }) ∧
    (s.sel = 0x22 →
      exec .rrise s = .next { s with phase := .awaitReg, btnRise := 0
                                     outbox := .txData s.btnRise :: s.outbox })

/-- R208: any other `sel`, the write-only registers among them, replies 0x00 without a side effect. -/
def Obligations.RzeroRepliesZero : Prop :=
  ∀ (reg : Byte) (s : State), s.enabled = true → s.sel = reg → 8 ≤ reg.toNat → reg ≠ 0x20 →
    reg ≠ 0x21 → reg ≠ 0x22 →
    exec (.rzero reg) s = .next { s with phase := .awaitReg, outbox := .txData 0x00 :: s.outbox }

/-- R203, R64, R209: RQ for every value of `sel`: the reply, the clear, the phase, and nothing else. -/
def Obligations.RqRepliesTheSelectedRegister : Prop :=
  ∀ s : State, s.enabled = true →
    exec .rq s =
      .next { s with
        btnFall := if s.sel = 0x21 then 0 else s.btnFall
        btnRise := if s.sel = 0x22 then 0 else s.btnRise
        phase := .awaitReg
        outbox := .txData (if s.sel.toNat ≤ 7 then s.ana.toList.getD s.sel.toNat 0
          else if s.sel = 0x20 then s.btnState
          else if s.sel = 0x21 then s.btnFall
          else if s.sel = 0x22 then s.btnRise else 0) :: s.outbox }

/-- R92, R102: an RQ is the row that `sel` selects; a row whose address `sel` does not hold, and a B1 row of
the other phase, has no step (the latter is the model's convention, notes/assumptions/10.md). -/
def Obligations.RqIsTheRowSelSelects : Prop :=
  ∀ s : State, s.enabled = true →
    exec (decodeR1 s.sel) s = exec .rq s ∧
    (∀ a : Byte, a ≠ s.sel → exec (decodeR1 a) s = .fault .rowNotSelected) ∧
    (∀ (p : Phase) (b : Byte), p ≠ s.phase → exec (decodeB1 p b) s = .fault .rowNotSelected)

/-- R210: `sel` is changed only by RX in phase AwaitReg and by RESET. -/
def Obligations.SelPersists : Prop :=
  ∀ (i : Instr) (s t : State), exec i s = .next t → Instr.kind i ≠ .reset →
    (Instr.kind i ≠ .receive → t.sel = s.sel) ∧
    (∀ b, i = .rx b → s.phase = .awaitData → t.sel = s.sel) ∧
    (∀ b, i = .rxdat b → t.sel = s.sel)

/-- R213, R71 (derived by the spec): a second RQ with nothing in between reads the same register again: 0x00
for the two clear-on-read registers, the same byte for any other. -/
def Obligations.SecondRequestReadsAgain : Prop :=
  ∀ s t u : State, exec .rq s = .next t → exec .rq t = .next u →
    u = { t with outbox := u.outbox } ∧
    u.lastReply = if s.sel = 0x21 ∨ s.sel = 0x22 then some 0 else t.lastReply

/-! ### The whole machine -/

/-- R50: each register has exactly the writers of the single-writer table: the PWM codes, prescalers and
enables only SETFREQ, the targets only SETDUTY, the output port only a write of 0x60. `adc_busy` and
`enabled` and their writers are decision D15. -/
def Obligations.EachRegisterHasItsWriters : Prop :=
  ∀ (i : Instr) (s t : State), exec i s = .next t →
    (Instr.kind i ∉ [Kind.conversion, .reset] → t.ana = s.ana ∧ t.mux = s.mux) ∧
    (Instr.kind i ∉ [Kind.init, .conversion, .reset] → t.adcBusy = s.adcBusy) ∧
    (Instr.kind i = .conversion → t.adcBusy = true) ∧
    (Instr.kind i ∉ [Kind.overflow, .tickProc, .debounceProc, .reset] →
      t.btnState = s.btnState ∧ t.btnCnt = s.btnCnt) ∧
    (Instr.kind i ∉ [Kind.overflow, .tickProc, .debounceProc, .request, .reset] →
      t.btnFall = s.btnFall ∧ t.btnRise = s.btnRise) ∧
    (Instr.kind i ∉ [Kind.overflow, .reset] → t.tickDiv = s.tickDiv) ∧
    (¬ Instr.callsSetfreq i s → Instr.kind i ≠ .reset →
      t.pwmFreq = s.pwmFreq ∧ t.prescA = s.prescA ∧ t.prescB = s.prescB ∧ t.ocEn = s.ocEn) ∧
    (¬ Instr.callsSetduty i s → Instr.kind i ≠ .reset → t.pwmTarget = s.pwmTarget) ∧
    (Instr.target i s ≠ some 0x60 → Instr.kind i ≠ .reset → t.outPort = s.outPort) ∧
    (Instr.kind i ∉ [Kind.overflow, .tickProc, .integrateProc, .reset] → t.pwmLevel = s.pwmLevel) ∧
    (Instr.kind i ∉ [Kind.receive, .request, .reset] → t.phase = s.phase) ∧
    (Instr.kind i ∉ [Kind.receive, .reset] → t.sel = s.sel ∧ t.pend = s.pend) ∧
    (Instr.kind i ∉ [Kind.init, .reset] → t.enabled = s.enabled)

/-- R81: with atomic operations (decision D3) every edge recorded before a read is returned by it, every edge
recorded after it is kept for the next read, and no edge is returned twice: a flag is set exactly by a change
of its channel's state to its level, and cleared exactly by the read that returns it. -/
def Obligations.EveryEdgeIsReturnedOnce : Prop :=
  ∀ (i : Instr) (s t : State), exec i s = .next t → i ≠ .reset →
    (Instr.kind i ≠ .request → ∀ ch : Fin 8,
      bitOf t.btnRise ch = (bitOf s.btnRise ch || (!bitOf s.btnState ch && bitOf t.btnState ch)) ∧
      bitOf t.btnFall ch = (bitOf s.btnFall ch || (bitOf s.btnState ch && !bitOf t.btnState ch))) ∧
    (Instr.kind i = .request → t.btnState = s.btnState ∧
      (s.sel = 0x21 → t.outbox = .txData s.btnFall :: s.outbox ∧ t.btnFall = 0) ∧
      (s.sel = 0x22 → t.outbox = .txData s.btnRise :: s.outbox ∧ t.btnRise = 0) ∧
      (s.sel ≠ 0x21 → t.btnFall = s.btnFall) ∧ (s.sel ≠ 0x22 → t.btnRise = s.btnRise))

/-- R172: a level never jumps: no row but RESET moves it by more than one unit, and then toward its target
and only by INTEGRATE, TICK or TOV. -/
def Obligations.LevelNeverJumps : Prop :=
  ∀ (i : Instr) (s t : State) (c : Fin 3), exec i s = .next t → i ≠ .reset →
    t.pwmLevel[c] = s.pwmLevel[c] ∨
    (Instr.kind i ∈ [Kind.overflow, .tickProc, .integrateProc] ∧
      ((s.pwmLevel[c].toNat < s.pwmTarget[c].toNat ∧ t.pwmLevel[c].toNat = s.pwmLevel[c].toNat + 1) ∨
       (s.pwmTarget[c].toNat < s.pwmLevel[c].toNat ∧ t.pwmLevel[c].toNat + 1 = s.pwmLevel[c].toNat)))

/-- R43, R124, R238 (decision D1): one reply for each request, one `adc_start` for INIT and for each
conversion, showing the selector as it then is, and nothing else goes out; each level port shows its
register, `oc_en_out` with channel c in bit c. The parameters and the inbox are never written, the port level
only by BTN (R21, R109). That all of these stand in State, and that RESET leaves the trace of what went out,
is the model's choice (DESIGN CHOICE, notes/assumptions/1.md, 4.md and 27.md). -/
def Obligations.OutputsComeFromTheirOperations : Prop :=
  ∀ (i : Instr) (s t : State), exec i s = .next t →
    (Instr.kind i = .request → ∃ d, t.outbox = .txData d :: s.outbox) ∧
    (Instr.kind i ∈ [Kind.conversion, .init] → t.outbox = .adcStart t.mux :: s.outbox) ∧
    (Instr.kind i ∉ [Kind.request, .conversion, .init] → t.outbox = s.outbox) ∧
    t.ports.adcMux = t.mux ∧ t.ports.prescAOut = t.prescA ∧ t.ports.prescBOut = t.prescB ∧
    (∀ c : Fin 3, t.ports.ocEnOut.getLsbD c = t.ocEn[c]) ∧ t.ports.pwmLevelOut = t.pwmLevel ∧
    t.ports.outPortOut = t.outPort ∧
    t.params = s.params ∧ t.inbox = s.inbox ∧ (Instr.kind i ≠ .level → t.btnRaw = s.btnRaw)

/-- R36, R28, R30, R153 (derived by the spec), R24 and R124 (decision D15): every step of the atomic block
keeps the invariant. -/
def Obligations.StepKeepsTheInvariant : Prop :=
  ∀ s t : State, s.Inv → step s = .next t → t.Inv

/-- The state after reset meets the invariant (it depends on the decided reset values, D9 and D15). -/
def Obligations.ResetMeetsTheInvariant : Prop := State.reset.Inv

/-- R30, R34, R79 (derived by the spec): in both settings of PREEMPT every step keeps the shared group's
codes legal, also in the middle of a SETFREQ; and the state after reset is such a state, which rests on
decision D9 (notes/assumptions/8.md). The writes still due stand in `inflight`, the model's own field (DESIGN
CHOICE, notes/assumptions/14.md). -/
def Obligations.SharedGroupStaysLegal : Prop :=
  State.reset.SharedOk ∧ ∀ s t : State, s.SharedOk → step s = .next t → t.SharedOk

/-- R8, R21: the parameters are fixed: no step, in either setting of PREEMPT, changes them (they stand in
State by the model's choice, notes/assumptions/4.md). -/
def Obligations.StepKeepsTheParameters : Prop :=
  ∀ s t : State, step s = .next t → t.params = s.params

/-- R234, R263, U14 (decisions D15, D21): a good state has no step only for an event the environment cannot
produce, and refuses only a stimulus word of no kind. -/
def Obligations.StepStopsOnlyOnUndeliverableEvents : Prop :=
  ∀ s : State, s.Inv →
    (∀ r, step s = .fault r → ∃ i, s.nextInstr = some i ∧
      ((r = .notEnabled ∧ s.enabled = false ∧
          Instr.kind i ∈ [Kind.receive, .request, .overflow, .conversion]) ∨
       (r = .alreadyInit ∧ s.enabled = true ∧ i = .init))) ∧
    (∀ r, step s = .refused r → ∃ kind : BitVec 4, r = .noStimulus kind ∧ 7 ≤ kind.toNat)

/-! ### Nesting handlers (PREEMPT = true) -/

/-- R76, R13 (decisions D14, D17; notes/assumptions/14.md): the accesses of an operation, made with no other
operation between them, are the atomic operation, in whatever order a tick takes the channels. -/
def Obligations.UninterruptedAccessesAreTheOperation : Prop :=
  ∀ (i : Instr) (s t : State) (source : Source), s.params.wf = true →
    Instr.source i = some source → exec i s = .next t →
    ∃ n, runAccesses n (openingAccesses i) s = (t, [])

/-- R76, R242 (decision D3; notes/assumptions/14.md): while an operation is in progress an event of another
source occurs whole, and an event of the same source waits while the operation makes its next access; it also
makes its next access when no event is due and when the environment passes. An access runs, and those it
leads to come before the ones already due. With none in progress an event of a source begins its operation
exactly where the atomic operation has a step, and any other event is taken whole. -/
def Obligations.BusyStepPreemptsOrWaits : Prop :=
  (∀ (s : State) (a : Activation) (st : Stimulus) (rest : List Stimulus) (e : Encoding) (i : Instr),
    s.inflight = some a → s.inbox = st :: rest → encodingOf st s = some e → decode e = .instr i →
    (Instr.source i = some a.source → step s = .next (advance a s)) ∧
    (Instr.source i ≠ some a.source → step s = exec i { s with inbox := rest })) ∧
  (∀ (s : State) (a : Activation), s.inflight = some a → s.inbox = [] → step s = .next (advance a s)) ∧
  (∀ (s : State) (a : Activation) (rest : List Stimulus), s.inflight = some a → s.inbox = .pass :: rest →
    step s = .next (advance a { s with inbox := rest })) ∧
  (∀ (s : State) (source : Source) (op : Access) (later : List Access),
    advance { source := source, todo := op :: later } s =
      { (op.run s).1 with
        inflight :=
          if (op.run s).2 ++ later = [] then none
          else some { source := source, todo := (op.run s).2 ++ later } }) ∧
  (∀ (s : State) (st : Stimulus) (rest : List Stimulus) (e : Encoding) (i : Instr),
    s.params.preempt = true → s.inflight = none → s.inbox = st :: rest → encodingOf st s = some e →
    decode e = .instr i →
    (∀ source t, Instr.source i = some source → exec i { s with inbox := rest } = .next t →
      step s = .next { s with
        inbox := rest
        inflight := some { source := source, todo := openingAccesses i } }) ∧
    ((∀ t, exec i { s with inbox := rest } ≠ .next t) → step s = exec i { s with inbox := rest }) ∧
    (Instr.source i = none → step s = exec i { s with inbox := rest }))

/-- R77, R78 (derived by the spec): the two races of PREEMPT = true exist, in runs of reads, overflows and
passes with `sel` at 0x22. A rising edge on channel 0 is accepted during a read of 0x22 and is then neither
returned nor pending; and a flag that a read of 0x22 returned is returned again by the next one, although its
channel's state is what it was and no change of it was accepted. -/
def Obligations.NestedHandlersLoseAndRepeatEdges : Prop :=
  (∃ (s t : State) (n : Nat) (d : Byte), s.params.preempt = true ∧ s.inflight = none ∧ s.sel = 0x22 ∧
    (∀ st ∈ s.inbox, st ∈ [Stimulus.read, .pass, .word 0x2000]) ∧
    s.outbox = [] ∧ bitOf s.btnState 0 = false ∧ bitOf s.btnRise 0 = false ∧
    Host.Core.run Sys2Proof.core n s = .next t ∧ t.inflight = none ∧ t.inbox = [] ∧
    bitOf t.btnState 0 = true ∧ bitOf t.btnRise 0 = false ∧
    t.outbox = [.txData d] ∧ bitOf d 0 = false) ∧
  (∃ (s t : State) (n : Nat) (d d' : Byte), s.params.preempt = true ∧ s.inflight = none ∧ s.sel = 0x22 ∧
    (∀ st ∈ s.inbox, st ∈ [Stimulus.read, .pass, .word 0x2000]) ∧
    s.outbox = [] ∧ bitOf s.btnRise 0 = true ∧ s.btnCnt[(0 : Fin 8)].toNat = 100 ∧
    Host.Core.run Sys2Proof.core n s = .next t ∧ t.inflight = none ∧ t.inbox = [] ∧
    t.btnCnt[(0 : Fin 8)].toNat = 99 ∧ bitOf t.btnState 0 = bitOf s.btnState 0 ∧
    t.outbox = [.txData d', .txData d] ∧ bitOf d 0 = true ∧ bitOf d' 0 = true)
end

