-- ==== Sys2Proof/Laws/Encoding.lean ====
section
/-! SUPPORT. The fields of a word read back from the word they were put into. -/

namespace Sys2Proof

@[simp] theorem hiByte_wordOf (hi lo : Byte) : hiByte (wordOf hi lo) = hi := by
  apply BitVec.eq_of_getLsbD_eq
  intro i hi'
  rw [hiByte, wordOf, BitVec.getLsbD_extractLsb', BitVec.getLsbD_append]
  simp [hi']

@[simp] theorem loByte_wordOf (hi lo : Byte) : loByte (wordOf hi lo) = lo := by
  apply BitVec.eq_of_getLsbD_eq
  intro i hi'
  simp only [loByte, wordOf, BitVec.getLsbD_extractLsb', BitVec.getLsbD_append, hi', Nat.zero_add]
  simp

@[simp] theorem wordOf_hiByte_loByte (w : Word) : wordOf (hiByte w) (loByte w) = w := by
  apply BitVec.eq_of_getLsbD_eq
  intro i hi'
  simp only [hiByte, loByte, wordOf, BitVec.getLsbD_extractLsb', BitVec.getLsbD_append]
  by_cases h : i < 8
  · simp [h]
  · simp [h, show i - 8 < 8 by omega, show 8 + (i - 8) = i by omega]

@[simp] theorem kindOf_stimulusWord (k : BitVec 4) (p : BitVec 12) : kindOf (stimulusWord k p) = k := by
  apply BitVec.eq_of_getLsbD_eq
  intro i hi'
  rw [kindOf, stimulusWord, BitVec.getLsbD_extractLsb', BitVec.getLsbD_append]
  simp [hi']

@[simp] theorem payloadOf_stimulusWord (k : BitVec 4) (p : BitVec 12) :
    payloadOf (stimulusWord k p) = p := by
  apply BitVec.eq_of_getLsbD_eq
  intro i hi'
  simp only [payloadOf, stimulusWord, BitVec.getLsbD_extractLsb', BitVec.getLsbD_append, hi',
    Nat.zero_add]
  simp

/-- The low byte of a stimulus word is the low byte of its payload. -/
@[simp] theorem loByte_stimulusWord (k : BitVec 4) (b : Byte) :
    loByte (stimulusWord k (b.zeroExtend 12)) = b := by
  apply BitVec.eq_of_getLsbD_eq
  intro i hi'
  simp only [loByte, stimulusWord, BitVec.getLsbD_extractLsb', BitVec.getLsbD_append, hi',
    Nat.zero_add, show i < 12 by omega]
  simp [show i < 12 by omega]

end Sys2Proof
end

