-- ==== Sys2Proof/Laws/State.lean ====
section
/-! SUPPORT. One lemma per field per update of State, each true by definition, so that no proof unfolds
a record update. -/

namespace Sys2Proof.Machine

variable (s : State)

/-! ### putBtnRaw -/

section putBtnRaw
variable (v : Byte)

@[simp] theorem State.putBtnRaw_params : (s.putBtnRaw v).params = s.params := rfl
@[simp] theorem State.putBtnRaw_btnRaw : (s.putBtnRaw v).btnRaw = v := rfl
@[simp] theorem State.putBtnRaw_inbox : (s.putBtnRaw v).inbox = s.inbox := rfl
@[simp] theorem State.putBtnRaw_outbox : (s.putBtnRaw v).outbox = s.outbox := rfl
@[simp] theorem State.putBtnRaw_ana : (s.putBtnRaw v).ana = s.ana := rfl
@[simp] theorem State.putBtnRaw_mux : (s.putBtnRaw v).mux = s.mux := rfl
@[simp] theorem State.putBtnRaw_adcBusy : (s.putBtnRaw v).adcBusy = s.adcBusy := rfl
@[simp] theorem State.putBtnRaw_btnState : (s.putBtnRaw v).btnState = s.btnState := rfl
@[simp] theorem State.putBtnRaw_btnFall : (s.putBtnRaw v).btnFall = s.btnFall := rfl
@[simp] theorem State.putBtnRaw_btnRise : (s.putBtnRaw v).btnRise = s.btnRise := rfl
@[simp] theorem State.putBtnRaw_btnCnt : (s.putBtnRaw v).btnCnt = s.btnCnt := rfl
@[simp] theorem State.putBtnRaw_tickDiv : (s.putBtnRaw v).tickDiv = s.tickDiv := rfl
@[simp] theorem State.putBtnRaw_pwmFreq : (s.putBtnRaw v).pwmFreq = s.pwmFreq := rfl
@[simp] theorem State.putBtnRaw_pwmTarget : (s.putBtnRaw v).pwmTarget = s.pwmTarget := rfl
@[simp] theorem State.putBtnRaw_pwmLevel : (s.putBtnRaw v).pwmLevel = s.pwmLevel := rfl
@[simp] theorem State.putBtnRaw_prescA : (s.putBtnRaw v).prescA = s.prescA := rfl
@[simp] theorem State.putBtnRaw_prescB : (s.putBtnRaw v).prescB = s.prescB := rfl
@[simp] theorem State.putBtnRaw_ocEn : (s.putBtnRaw v).ocEn = s.ocEn := rfl
@[simp] theorem State.putBtnRaw_outPort : (s.putBtnRaw v).outPort = s.outPort := rfl
@[simp] theorem State.putBtnRaw_phase : (s.putBtnRaw v).phase = s.phase := rfl
@[simp] theorem State.putBtnRaw_sel : (s.putBtnRaw v).sel = s.sel := rfl
@[simp] theorem State.putBtnRaw_pend : (s.putBtnRaw v).pend = s.pend := rfl
@[simp] theorem State.putBtnRaw_enabled : (s.putBtnRaw v).enabled = s.enabled := rfl
@[simp] theorem State.putBtnRaw_inflight : (s.putBtnRaw v).inflight = s.inflight := rfl

end putBtnRaw

/-! ### putInbox -/

section putInbox
variable (v : List Stimulus)

@[simp] theorem State.putInbox_params : (s.putInbox v).params = s.params := rfl
@[simp] theorem State.putInbox_btnRaw : (s.putInbox v).btnRaw = s.btnRaw := rfl
@[simp] theorem State.putInbox_inbox : (s.putInbox v).inbox = v := rfl
@[simp] theorem State.putInbox_outbox : (s.putInbox v).outbox = s.outbox := rfl
@[simp] theorem State.putInbox_ana : (s.putInbox v).ana = s.ana := rfl
@[simp] theorem State.putInbox_mux : (s.putInbox v).mux = s.mux := rfl
@[simp] theorem State.putInbox_adcBusy : (s.putInbox v).adcBusy = s.adcBusy := rfl
@[simp] theorem State.putInbox_btnState : (s.putInbox v).btnState = s.btnState := rfl
@[simp] theorem State.putInbox_btnFall : (s.putInbox v).btnFall = s.btnFall := rfl
@[simp] theorem State.putInbox_btnRise : (s.putInbox v).btnRise = s.btnRise := rfl
@[simp] theorem State.putInbox_btnCnt : (s.putInbox v).btnCnt = s.btnCnt := rfl
@[simp] theorem State.putInbox_tickDiv : (s.putInbox v).tickDiv = s.tickDiv := rfl
@[simp] theorem State.putInbox_pwmFreq : (s.putInbox v).pwmFreq = s.pwmFreq := rfl
@[simp] theorem State.putInbox_pwmTarget : (s.putInbox v).pwmTarget = s.pwmTarget := rfl
@[simp] theorem State.putInbox_pwmLevel : (s.putInbox v).pwmLevel = s.pwmLevel := rfl
@[simp] theorem State.putInbox_prescA : (s.putInbox v).prescA = s.prescA := rfl
@[simp] theorem State.putInbox_prescB : (s.putInbox v).prescB = s.prescB := rfl
@[simp] theorem State.putInbox_ocEn : (s.putInbox v).ocEn = s.ocEn := rfl
@[simp] theorem State.putInbox_outPort : (s.putInbox v).outPort = s.outPort := rfl
@[simp] theorem State.putInbox_phase : (s.putInbox v).phase = s.phase := rfl
@[simp] theorem State.putInbox_sel : (s.putInbox v).sel = s.sel := rfl
@[simp] theorem State.putInbox_pend : (s.putInbox v).pend = s.pend := rfl
@[simp] theorem State.putInbox_enabled : (s.putInbox v).enabled = s.enabled := rfl
@[simp] theorem State.putInbox_inflight : (s.putInbox v).inflight = s.inflight := rfl

end putInbox

/-! ### putAna -/

section putAna
variable (i : Fin 8) (v : Byte)

@[simp] theorem State.putAna_params : (s.putAna i v).params = s.params := rfl
@[simp] theorem State.putAna_btnRaw : (s.putAna i v).btnRaw = s.btnRaw := rfl
@[simp] theorem State.putAna_inbox : (s.putAna i v).inbox = s.inbox := rfl
@[simp] theorem State.putAna_outbox : (s.putAna i v).outbox = s.outbox := rfl
@[simp] theorem State.putAna_ana : (s.putAna i v).ana = s.ana.set i v := rfl
@[simp] theorem State.putAna_mux : (s.putAna i v).mux = s.mux := rfl
@[simp] theorem State.putAna_adcBusy : (s.putAna i v).adcBusy = s.adcBusy := rfl
@[simp] theorem State.putAna_btnState : (s.putAna i v).btnState = s.btnState := rfl
@[simp] theorem State.putAna_btnFall : (s.putAna i v).btnFall = s.btnFall := rfl
@[simp] theorem State.putAna_btnRise : (s.putAna i v).btnRise = s.btnRise := rfl
@[simp] theorem State.putAna_btnCnt : (s.putAna i v).btnCnt = s.btnCnt := rfl
@[simp] theorem State.putAna_tickDiv : (s.putAna i v).tickDiv = s.tickDiv := rfl
@[simp] theorem State.putAna_pwmFreq : (s.putAna i v).pwmFreq = s.pwmFreq := rfl
@[simp] theorem State.putAna_pwmTarget : (s.putAna i v).pwmTarget = s.pwmTarget := rfl
@[simp] theorem State.putAna_pwmLevel : (s.putAna i v).pwmLevel = s.pwmLevel := rfl
@[simp] theorem State.putAna_prescA : (s.putAna i v).prescA = s.prescA := rfl
@[simp] theorem State.putAna_prescB : (s.putAna i v).prescB = s.prescB := rfl
@[simp] theorem State.putAna_ocEn : (s.putAna i v).ocEn = s.ocEn := rfl
@[simp] theorem State.putAna_outPort : (s.putAna i v).outPort = s.outPort := rfl
@[simp] theorem State.putAna_phase : (s.putAna i v).phase = s.phase := rfl
@[simp] theorem State.putAna_sel : (s.putAna i v).sel = s.sel := rfl
@[simp] theorem State.putAna_pend : (s.putAna i v).pend = s.pend := rfl
@[simp] theorem State.putAna_enabled : (s.putAna i v).enabled = s.enabled := rfl
@[simp] theorem State.putAna_inflight : (s.putAna i v).inflight = s.inflight := rfl

end putAna

/-! ### putMux -/

section putMux
variable (v : BitVec 4)

@[simp] theorem State.putMux_params : (s.putMux v).params = s.params := rfl
@[simp] theorem State.putMux_btnRaw : (s.putMux v).btnRaw = s.btnRaw := rfl
@[simp] theorem State.putMux_inbox : (s.putMux v).inbox = s.inbox := rfl
@[simp] theorem State.putMux_outbox : (s.putMux v).outbox = s.outbox := rfl
@[simp] theorem State.putMux_ana : (s.putMux v).ana = s.ana := rfl
@[simp] theorem State.putMux_mux : (s.putMux v).mux = v := rfl
@[simp] theorem State.putMux_adcBusy : (s.putMux v).adcBusy = s.adcBusy := rfl
@[simp] theorem State.putMux_btnState : (s.putMux v).btnState = s.btnState := rfl
@[simp] theorem State.putMux_btnFall : (s.putMux v).btnFall = s.btnFall := rfl
@[simp] theorem State.putMux_btnRise : (s.putMux v).btnRise = s.btnRise := rfl
@[simp] theorem State.putMux_btnCnt : (s.putMux v).btnCnt = s.btnCnt := rfl
@[simp] theorem State.putMux_tickDiv : (s.putMux v).tickDiv = s.tickDiv := rfl
@[simp] theorem State.putMux_pwmFreq : (s.putMux v).pwmFreq = s.pwmFreq := rfl
@[simp] theorem State.putMux_pwmTarget : (s.putMux v).pwmTarget = s.pwmTarget := rfl
@[simp] theorem State.putMux_pwmLevel : (s.putMux v).pwmLevel = s.pwmLevel := rfl
@[simp] theorem State.putMux_prescA : (s.putMux v).prescA = s.prescA := rfl
@[simp] theorem State.putMux_prescB : (s.putMux v).prescB = s.prescB := rfl
@[simp] theorem State.putMux_ocEn : (s.putMux v).ocEn = s.ocEn := rfl
@[simp] theorem State.putMux_outPort : (s.putMux v).outPort = s.outPort := rfl
@[simp] theorem State.putMux_phase : (s.putMux v).phase = s.phase := rfl
@[simp] theorem State.putMux_sel : (s.putMux v).sel = s.sel := rfl
@[simp] theorem State.putMux_pend : (s.putMux v).pend = s.pend := rfl
@[simp] theorem State.putMux_enabled : (s.putMux v).enabled = s.enabled := rfl
@[simp] theorem State.putMux_inflight : (s.putMux v).inflight = s.inflight := rfl

end putMux

/-! ### putAdcBusy -/

section putAdcBusy
variable (v : Bool)

@[simp] theorem State.putAdcBusy_params : (s.putAdcBusy v).params = s.params := rfl
@[simp] theorem State.putAdcBusy_btnRaw : (s.putAdcBusy v).btnRaw = s.btnRaw := rfl
@[simp] theorem State.putAdcBusy_inbox : (s.putAdcBusy v).inbox = s.inbox := rfl
@[simp] theorem State.putAdcBusy_outbox : (s.putAdcBusy v).outbox = s.outbox := rfl
@[simp] theorem State.putAdcBusy_ana : (s.putAdcBusy v).ana = s.ana := rfl
@[simp] theorem State.putAdcBusy_mux : (s.putAdcBusy v).mux = s.mux := rfl
@[simp] theorem State.putAdcBusy_adcBusy : (s.putAdcBusy v).adcBusy = v := rfl
@[simp] theorem State.putAdcBusy_btnState : (s.putAdcBusy v).btnState = s.btnState := rfl
@[simp] theorem State.putAdcBusy_btnFall : (s.putAdcBusy v).btnFall = s.btnFall := rfl
@[simp] theorem State.putAdcBusy_btnRise : (s.putAdcBusy v).btnRise = s.btnRise := rfl
@[simp] theorem State.putAdcBusy_btnCnt : (s.putAdcBusy v).btnCnt = s.btnCnt := rfl
@[simp] theorem State.putAdcBusy_tickDiv : (s.putAdcBusy v).tickDiv = s.tickDiv := rfl
@[simp] theorem State.putAdcBusy_pwmFreq : (s.putAdcBusy v).pwmFreq = s.pwmFreq := rfl
@[simp] theorem State.putAdcBusy_pwmTarget : (s.putAdcBusy v).pwmTarget = s.pwmTarget := rfl
@[simp] theorem State.putAdcBusy_pwmLevel : (s.putAdcBusy v).pwmLevel = s.pwmLevel := rfl
@[simp] theorem State.putAdcBusy_prescA : (s.putAdcBusy v).prescA = s.prescA := rfl
@[simp] theorem State.putAdcBusy_prescB : (s.putAdcBusy v).prescB = s.prescB := rfl
@[simp] theorem State.putAdcBusy_ocEn : (s.putAdcBusy v).ocEn = s.ocEn := rfl
@[simp] theorem State.putAdcBusy_outPort : (s.putAdcBusy v).outPort = s.outPort := rfl
@[simp] theorem State.putAdcBusy_phase : (s.putAdcBusy v).phase = s.phase := rfl
@[simp] theorem State.putAdcBusy_sel : (s.putAdcBusy v).sel = s.sel := rfl
@[simp] theorem State.putAdcBusy_pend : (s.putAdcBusy v).pend = s.pend := rfl
@[simp] theorem State.putAdcBusy_enabled : (s.putAdcBusy v).enabled = s.enabled := rfl
@[simp] theorem State.putAdcBusy_inflight : (s.putAdcBusy v).inflight = s.inflight := rfl

end putAdcBusy

/-! ### putBtnState -/

section putBtnState
variable (v : Byte)

@[simp] theorem State.putBtnState_params : (s.putBtnState v).params = s.params := rfl
@[simp] theorem State.putBtnState_btnRaw : (s.putBtnState v).btnRaw = s.btnRaw := rfl
@[simp] theorem State.putBtnState_inbox : (s.putBtnState v).inbox = s.inbox := rfl
@[simp] theorem State.putBtnState_outbox : (s.putBtnState v).outbox = s.outbox := rfl
@[simp] theorem State.putBtnState_ana : (s.putBtnState v).ana = s.ana := rfl
@[simp] theorem State.putBtnState_mux : (s.putBtnState v).mux = s.mux := rfl
@[simp] theorem State.putBtnState_adcBusy : (s.putBtnState v).adcBusy = s.adcBusy := rfl
@[simp] theorem State.putBtnState_btnState : (s.putBtnState v).btnState = v := rfl
@[simp] theorem State.putBtnState_btnFall : (s.putBtnState v).btnFall = s.btnFall := rfl
@[simp] theorem State.putBtnState_btnRise : (s.putBtnState v).btnRise = s.btnRise := rfl
@[simp] theorem State.putBtnState_btnCnt : (s.putBtnState v).btnCnt = s.btnCnt := rfl
@[simp] theorem State.putBtnState_tickDiv : (s.putBtnState v).tickDiv = s.tickDiv := rfl
@[simp] theorem State.putBtnState_pwmFreq : (s.putBtnState v).pwmFreq = s.pwmFreq := rfl
@[simp] theorem State.putBtnState_pwmTarget : (s.putBtnState v).pwmTarget = s.pwmTarget := rfl
@[simp] theorem State.putBtnState_pwmLevel : (s.putBtnState v).pwmLevel = s.pwmLevel := rfl
@[simp] theorem State.putBtnState_prescA : (s.putBtnState v).prescA = s.prescA := rfl
@[simp] theorem State.putBtnState_prescB : (s.putBtnState v).prescB = s.prescB := rfl
@[simp] theorem State.putBtnState_ocEn : (s.putBtnState v).ocEn = s.ocEn := rfl
@[simp] theorem State.putBtnState_outPort : (s.putBtnState v).outPort = s.outPort := rfl
@[simp] theorem State.putBtnState_phase : (s.putBtnState v).phase = s.phase := rfl
@[simp] theorem State.putBtnState_sel : (s.putBtnState v).sel = s.sel := rfl
@[simp] theorem State.putBtnState_pend : (s.putBtnState v).pend = s.pend := rfl
@[simp] theorem State.putBtnState_enabled : (s.putBtnState v).enabled = s.enabled := rfl
@[simp] theorem State.putBtnState_inflight : (s.putBtnState v).inflight = s.inflight := rfl

end putBtnState

/-! ### putBtnFall -/

section putBtnFall
variable (v : Byte)

@[simp] theorem State.putBtnFall_params : (s.putBtnFall v).params = s.params := rfl
@[simp] theorem State.putBtnFall_btnRaw : (s.putBtnFall v).btnRaw = s.btnRaw := rfl
@[simp] theorem State.putBtnFall_inbox : (s.putBtnFall v).inbox = s.inbox := rfl
@[simp] theorem State.putBtnFall_outbox : (s.putBtnFall v).outbox = s.outbox := rfl
@[simp] theorem State.putBtnFall_ana : (s.putBtnFall v).ana = s.ana := rfl
@[simp] theorem State.putBtnFall_mux : (s.putBtnFall v).mux = s.mux := rfl
@[simp] theorem State.putBtnFall_adcBusy : (s.putBtnFall v).adcBusy = s.adcBusy := rfl
@[simp] theorem State.putBtnFall_btnState : (s.putBtnFall v).btnState = s.btnState := rfl
@[simp] theorem State.putBtnFall_btnFall : (s.putBtnFall v).btnFall = v := rfl
@[simp] theorem State.putBtnFall_btnRise : (s.putBtnFall v).btnRise = s.btnRise := rfl
@[simp] theorem State.putBtnFall_btnCnt : (s.putBtnFall v).btnCnt = s.btnCnt := rfl
@[simp] theorem State.putBtnFall_tickDiv : (s.putBtnFall v).tickDiv = s.tickDiv := rfl
@[simp] theorem State.putBtnFall_pwmFreq : (s.putBtnFall v).pwmFreq = s.pwmFreq := rfl
@[simp] theorem State.putBtnFall_pwmTarget : (s.putBtnFall v).pwmTarget = s.pwmTarget := rfl
@[simp] theorem State.putBtnFall_pwmLevel : (s.putBtnFall v).pwmLevel = s.pwmLevel := rfl
@[simp] theorem State.putBtnFall_prescA : (s.putBtnFall v).prescA = s.prescA := rfl
@[simp] theorem State.putBtnFall_prescB : (s.putBtnFall v).prescB = s.prescB := rfl
@[simp] theorem State.putBtnFall_ocEn : (s.putBtnFall v).ocEn = s.ocEn := rfl
@[simp] theorem State.putBtnFall_outPort : (s.putBtnFall v).outPort = s.outPort := rfl
@[simp] theorem State.putBtnFall_phase : (s.putBtnFall v).phase = s.phase := rfl
@[simp] theorem State.putBtnFall_sel : (s.putBtnFall v).sel = s.sel := rfl
@[simp] theorem State.putBtnFall_pend : (s.putBtnFall v).pend = s.pend := rfl
@[simp] theorem State.putBtnFall_enabled : (s.putBtnFall v).enabled = s.enabled := rfl
@[simp] theorem State.putBtnFall_inflight : (s.putBtnFall v).inflight = s.inflight := rfl

end putBtnFall

/-! ### putBtnRise -/

section putBtnRise
variable (v : Byte)

@[simp] theorem State.putBtnRise_params : (s.putBtnRise v).params = s.params := rfl
@[simp] theorem State.putBtnRise_btnRaw : (s.putBtnRise v).btnRaw = s.btnRaw := rfl
@[simp] theorem State.putBtnRise_inbox : (s.putBtnRise v).inbox = s.inbox := rfl
@[simp] theorem State.putBtnRise_outbox : (s.putBtnRise v).outbox = s.outbox := rfl
@[simp] theorem State.putBtnRise_ana : (s.putBtnRise v).ana = s.ana := rfl
@[simp] theorem State.putBtnRise_mux : (s.putBtnRise v).mux = s.mux := rfl
@[simp] theorem State.putBtnRise_adcBusy : (s.putBtnRise v).adcBusy = s.adcBusy := rfl
@[simp] theorem State.putBtnRise_btnState : (s.putBtnRise v).btnState = s.btnState := rfl
@[simp] theorem State.putBtnRise_btnFall : (s.putBtnRise v).btnFall = s.btnFall := rfl
@[simp] theorem State.putBtnRise_btnRise : (s.putBtnRise v).btnRise = v := rfl
@[simp] theorem State.putBtnRise_btnCnt : (s.putBtnRise v).btnCnt = s.btnCnt := rfl
@[simp] theorem State.putBtnRise_tickDiv : (s.putBtnRise v).tickDiv = s.tickDiv := rfl
@[simp] theorem State.putBtnRise_pwmFreq : (s.putBtnRise v).pwmFreq = s.pwmFreq := rfl
@[simp] theorem State.putBtnRise_pwmTarget : (s.putBtnRise v).pwmTarget = s.pwmTarget := rfl
@[simp] theorem State.putBtnRise_pwmLevel : (s.putBtnRise v).pwmLevel = s.pwmLevel := rfl
@[simp] theorem State.putBtnRise_prescA : (s.putBtnRise v).prescA = s.prescA := rfl
@[simp] theorem State.putBtnRise_prescB : (s.putBtnRise v).prescB = s.prescB := rfl
@[simp] theorem State.putBtnRise_ocEn : (s.putBtnRise v).ocEn = s.ocEn := rfl
@[simp] theorem State.putBtnRise_outPort : (s.putBtnRise v).outPort = s.outPort := rfl
@[simp] theorem State.putBtnRise_phase : (s.putBtnRise v).phase = s.phase := rfl
@[simp] theorem State.putBtnRise_sel : (s.putBtnRise v).sel = s.sel := rfl
@[simp] theorem State.putBtnRise_pend : (s.putBtnRise v).pend = s.pend := rfl
@[simp] theorem State.putBtnRise_enabled : (s.putBtnRise v).enabled = s.enabled := rfl
@[simp] theorem State.putBtnRise_inflight : (s.putBtnRise v).inflight = s.inflight := rfl

end putBtnRise

/-! ### putBtnCnt -/

section putBtnCnt
variable (i : Fin 8) (v : Byte)

@[simp] theorem State.putBtnCnt_params : (s.putBtnCnt i v).params = s.params := rfl
@[simp] theorem State.putBtnCnt_btnRaw : (s.putBtnCnt i v).btnRaw = s.btnRaw := rfl
@[simp] theorem State.putBtnCnt_inbox : (s.putBtnCnt i v).inbox = s.inbox := rfl
@[simp] theorem State.putBtnCnt_outbox : (s.putBtnCnt i v).outbox = s.outbox := rfl
@[simp] theorem State.putBtnCnt_ana : (s.putBtnCnt i v).ana = s.ana := rfl
@[simp] theorem State.putBtnCnt_mux : (s.putBtnCnt i v).mux = s.mux := rfl
@[simp] theorem State.putBtnCnt_adcBusy : (s.putBtnCnt i v).adcBusy = s.adcBusy := rfl
@[simp] theorem State.putBtnCnt_btnState : (s.putBtnCnt i v).btnState = s.btnState := rfl
@[simp] theorem State.putBtnCnt_btnFall : (s.putBtnCnt i v).btnFall = s.btnFall := rfl
@[simp] theorem State.putBtnCnt_btnRise : (s.putBtnCnt i v).btnRise = s.btnRise := rfl
@[simp] theorem State.putBtnCnt_btnCnt : (s.putBtnCnt i v).btnCnt = s.btnCnt.set i v := rfl
@[simp] theorem State.putBtnCnt_tickDiv : (s.putBtnCnt i v).tickDiv = s.tickDiv := rfl
@[simp] theorem State.putBtnCnt_pwmFreq : (s.putBtnCnt i v).pwmFreq = s.pwmFreq := rfl
@[simp] theorem State.putBtnCnt_pwmTarget : (s.putBtnCnt i v).pwmTarget = s.pwmTarget := rfl
@[simp] theorem State.putBtnCnt_pwmLevel : (s.putBtnCnt i v).pwmLevel = s.pwmLevel := rfl
@[simp] theorem State.putBtnCnt_prescA : (s.putBtnCnt i v).prescA = s.prescA := rfl
@[simp] theorem State.putBtnCnt_prescB : (s.putBtnCnt i v).prescB = s.prescB := rfl
@[simp] theorem State.putBtnCnt_ocEn : (s.putBtnCnt i v).ocEn = s.ocEn := rfl
@[simp] theorem State.putBtnCnt_outPort : (s.putBtnCnt i v).outPort = s.outPort := rfl
@[simp] theorem State.putBtnCnt_phase : (s.putBtnCnt i v).phase = s.phase := rfl
@[simp] theorem State.putBtnCnt_sel : (s.putBtnCnt i v).sel = s.sel := rfl
@[simp] theorem State.putBtnCnt_pend : (s.putBtnCnt i v).pend = s.pend := rfl
@[simp] theorem State.putBtnCnt_enabled : (s.putBtnCnt i v).enabled = s.enabled := rfl
@[simp] theorem State.putBtnCnt_inflight : (s.putBtnCnt i v).inflight = s.inflight := rfl

end putBtnCnt

/-! ### putTickDiv -/

section putTickDiv
variable (v : Bool)

@[simp] theorem State.putTickDiv_params : (s.putTickDiv v).params = s.params := rfl
@[simp] theorem State.putTickDiv_btnRaw : (s.putTickDiv v).btnRaw = s.btnRaw := rfl
@[simp] theorem State.putTickDiv_inbox : (s.putTickDiv v).inbox = s.inbox := rfl
@[simp] theorem State.putTickDiv_outbox : (s.putTickDiv v).outbox = s.outbox := rfl
@[simp] theorem State.putTickDiv_ana : (s.putTickDiv v).ana = s.ana := rfl
@[simp] theorem State.putTickDiv_mux : (s.putTickDiv v).mux = s.mux := rfl
@[simp] theorem State.putTickDiv_adcBusy : (s.putTickDiv v).adcBusy = s.adcBusy := rfl
@[simp] theorem State.putTickDiv_btnState : (s.putTickDiv v).btnState = s.btnState := rfl
@[simp] theorem State.putTickDiv_btnFall : (s.putTickDiv v).btnFall = s.btnFall := rfl
@[simp] theorem State.putTickDiv_btnRise : (s.putTickDiv v).btnRise = s.btnRise := rfl
@[simp] theorem State.putTickDiv_btnCnt : (s.putTickDiv v).btnCnt = s.btnCnt := rfl
@[simp] theorem State.putTickDiv_tickDiv : (s.putTickDiv v).tickDiv = v := rfl
@[simp] theorem State.putTickDiv_pwmFreq : (s.putTickDiv v).pwmFreq = s.pwmFreq := rfl
@[simp] theorem State.putTickDiv_pwmTarget : (s.putTickDiv v).pwmTarget = s.pwmTarget := rfl
@[simp] theorem State.putTickDiv_pwmLevel : (s.putTickDiv v).pwmLevel = s.pwmLevel := rfl
@[simp] theorem State.putTickDiv_prescA : (s.putTickDiv v).prescA = s.prescA := rfl
@[simp] theorem State.putTickDiv_prescB : (s.putTickDiv v).prescB = s.prescB := rfl
@[simp] theorem State.putTickDiv_ocEn : (s.putTickDiv v).ocEn = s.ocEn := rfl
@[simp] theorem State.putTickDiv_outPort : (s.putTickDiv v).outPort = s.outPort := rfl
@[simp] theorem State.putTickDiv_phase : (s.putTickDiv v).phase = s.phase := rfl
@[simp] theorem State.putTickDiv_sel : (s.putTickDiv v).sel = s.sel := rfl
@[simp] theorem State.putTickDiv_pend : (s.putTickDiv v).pend = s.pend := rfl
@[simp] theorem State.putTickDiv_enabled : (s.putTickDiv v).enabled = s.enabled := rfl
@[simp] theorem State.putTickDiv_inflight : (s.putTickDiv v).inflight = s.inflight := rfl

end putTickDiv

/-! ### putPwmFreq -/

section putPwmFreq
variable (c : Fin 3) (v : BitVec 3)

@[simp] theorem State.putPwmFreq_params : (s.putPwmFreq c v).params = s.params := rfl
@[simp] theorem State.putPwmFreq_btnRaw : (s.putPwmFreq c v).btnRaw = s.btnRaw := rfl
@[simp] theorem State.putPwmFreq_inbox : (s.putPwmFreq c v).inbox = s.inbox := rfl
@[simp] theorem State.putPwmFreq_outbox : (s.putPwmFreq c v).outbox = s.outbox := rfl
@[simp] theorem State.putPwmFreq_ana : (s.putPwmFreq c v).ana = s.ana := rfl
@[simp] theorem State.putPwmFreq_mux : (s.putPwmFreq c v).mux = s.mux := rfl
@[simp] theorem State.putPwmFreq_adcBusy : (s.putPwmFreq c v).adcBusy = s.adcBusy := rfl
@[simp] theorem State.putPwmFreq_btnState : (s.putPwmFreq c v).btnState = s.btnState := rfl
@[simp] theorem State.putPwmFreq_btnFall : (s.putPwmFreq c v).btnFall = s.btnFall := rfl
@[simp] theorem State.putPwmFreq_btnRise : (s.putPwmFreq c v).btnRise = s.btnRise := rfl
@[simp] theorem State.putPwmFreq_btnCnt : (s.putPwmFreq c v).btnCnt = s.btnCnt := rfl
@[simp] theorem State.putPwmFreq_tickDiv : (s.putPwmFreq c v).tickDiv = s.tickDiv := rfl
@[simp] theorem State.putPwmFreq_pwmFreq : (s.putPwmFreq c v).pwmFreq = s.pwmFreq.set c v := rfl
@[simp] theorem State.putPwmFreq_pwmTarget : (s.putPwmFreq c v).pwmTarget = s.pwmTarget := rfl
@[simp] theorem State.putPwmFreq_pwmLevel : (s.putPwmFreq c v).pwmLevel = s.pwmLevel := rfl
@[simp] theorem State.putPwmFreq_prescA : (s.putPwmFreq c v).prescA = s.prescA := rfl
@[simp] theorem State.putPwmFreq_prescB : (s.putPwmFreq c v).prescB = s.prescB := rfl
@[simp] theorem State.putPwmFreq_ocEn : (s.putPwmFreq c v).ocEn = s.ocEn := rfl
@[simp] theorem State.putPwmFreq_outPort : (s.putPwmFreq c v).outPort = s.outPort := rfl
@[simp] theorem State.putPwmFreq_phase : (s.putPwmFreq c v).phase = s.phase := rfl
@[simp] theorem State.putPwmFreq_sel : (s.putPwmFreq c v).sel = s.sel := rfl
@[simp] theorem State.putPwmFreq_pend : (s.putPwmFreq c v).pend = s.pend := rfl
@[simp] theorem State.putPwmFreq_enabled : (s.putPwmFreq c v).enabled = s.enabled := rfl
@[simp] theorem State.putPwmFreq_inflight : (s.putPwmFreq c v).inflight = s.inflight := rfl

end putPwmFreq

/-! ### putPwmTarget -/

section putPwmTarget
variable (c : Fin 3) (v : Byte)

@[simp] theorem State.putPwmTarget_params : (s.putPwmTarget c v).params = s.params := rfl
@[simp] theorem State.putPwmTarget_btnRaw : (s.putPwmTarget c v).btnRaw = s.btnRaw := rfl
@[simp] theorem State.putPwmTarget_inbox : (s.putPwmTarget c v).inbox = s.inbox := rfl
@[simp] theorem State.putPwmTarget_outbox : (s.putPwmTarget c v).outbox = s.outbox := rfl
@[simp] theorem State.putPwmTarget_ana : (s.putPwmTarget c v).ana = s.ana := rfl
@[simp] theorem State.putPwmTarget_mux : (s.putPwmTarget c v).mux = s.mux := rfl
@[simp] theorem State.putPwmTarget_adcBusy : (s.putPwmTarget c v).adcBusy = s.adcBusy := rfl
@[simp] theorem State.putPwmTarget_btnState : (s.putPwmTarget c v).btnState = s.btnState := rfl
@[simp] theorem State.putPwmTarget_btnFall : (s.putPwmTarget c v).btnFall = s.btnFall := rfl
@[simp] theorem State.putPwmTarget_btnRise : (s.putPwmTarget c v).btnRise = s.btnRise := rfl
@[simp] theorem State.putPwmTarget_btnCnt : (s.putPwmTarget c v).btnCnt = s.btnCnt := rfl
@[simp] theorem State.putPwmTarget_tickDiv : (s.putPwmTarget c v).tickDiv = s.tickDiv := rfl
@[simp] theorem State.putPwmTarget_pwmFreq : (s.putPwmTarget c v).pwmFreq = s.pwmFreq := rfl
@[simp] theorem State.putPwmTarget_pwmTarget : (s.putPwmTarget c v).pwmTarget = s.pwmTarget.set c v := rfl
@[simp] theorem State.putPwmTarget_pwmLevel : (s.putPwmTarget c v).pwmLevel = s.pwmLevel := rfl
@[simp] theorem State.putPwmTarget_prescA : (s.putPwmTarget c v).prescA = s.prescA := rfl
@[simp] theorem State.putPwmTarget_prescB : (s.putPwmTarget c v).prescB = s.prescB := rfl
@[simp] theorem State.putPwmTarget_ocEn : (s.putPwmTarget c v).ocEn = s.ocEn := rfl
@[simp] theorem State.putPwmTarget_outPort : (s.putPwmTarget c v).outPort = s.outPort := rfl
@[simp] theorem State.putPwmTarget_phase : (s.putPwmTarget c v).phase = s.phase := rfl
@[simp] theorem State.putPwmTarget_sel : (s.putPwmTarget c v).sel = s.sel := rfl
@[simp] theorem State.putPwmTarget_pend : (s.putPwmTarget c v).pend = s.pend := rfl
@[simp] theorem State.putPwmTarget_enabled : (s.putPwmTarget c v).enabled = s.enabled := rfl
@[simp] theorem State.putPwmTarget_inflight : (s.putPwmTarget c v).inflight = s.inflight := rfl

end putPwmTarget

/-! ### putPwmLevel -/

section putPwmLevel
variable (c : Fin 3) (v : Byte)

@[simp] theorem State.putPwmLevel_params : (s.putPwmLevel c v).params = s.params := rfl
@[simp] theorem State.putPwmLevel_btnRaw : (s.putPwmLevel c v).btnRaw = s.btnRaw := rfl
@[simp] theorem State.putPwmLevel_inbox : (s.putPwmLevel c v).inbox = s.inbox := rfl
@[simp] theorem State.putPwmLevel_outbox : (s.putPwmLevel c v).outbox = s.outbox := rfl
@[simp] theorem State.putPwmLevel_ana : (s.putPwmLevel c v).ana = s.ana := rfl
@[simp] theorem State.putPwmLevel_mux : (s.putPwmLevel c v).mux = s.mux := rfl
@[simp] theorem State.putPwmLevel_adcBusy : (s.putPwmLevel c v).adcBusy = s.adcBusy := rfl
@[simp] theorem State.putPwmLevel_btnState : (s.putPwmLevel c v).btnState = s.btnState := rfl
@[simp] theorem State.putPwmLevel_btnFall : (s.putPwmLevel c v).btnFall = s.btnFall := rfl
@[simp] theorem State.putPwmLevel_btnRise : (s.putPwmLevel c v).btnRise = s.btnRise := rfl
@[simp] theorem State.putPwmLevel_btnCnt : (s.putPwmLevel c v).btnCnt = s.btnCnt := rfl
@[simp] theorem State.putPwmLevel_tickDiv : (s.putPwmLevel c v).tickDiv = s.tickDiv := rfl
@[simp] theorem State.putPwmLevel_pwmFreq : (s.putPwmLevel c v).pwmFreq = s.pwmFreq := rfl
@[simp] theorem State.putPwmLevel_pwmTarget : (s.putPwmLevel c v).pwmTarget = s.pwmTarget := rfl
@[simp] theorem State.putPwmLevel_pwmLevel : (s.putPwmLevel c v).pwmLevel = s.pwmLevel.set c v := rfl
@[simp] theorem State.putPwmLevel_prescA : (s.putPwmLevel c v).prescA = s.prescA := rfl
@[simp] theorem State.putPwmLevel_prescB : (s.putPwmLevel c v).prescB = s.prescB := rfl
@[simp] theorem State.putPwmLevel_ocEn : (s.putPwmLevel c v).ocEn = s.ocEn := rfl
@[simp] theorem State.putPwmLevel_outPort : (s.putPwmLevel c v).outPort = s.outPort := rfl
@[simp] theorem State.putPwmLevel_phase : (s.putPwmLevel c v).phase = s.phase := rfl
@[simp] theorem State.putPwmLevel_sel : (s.putPwmLevel c v).sel = s.sel := rfl
@[simp] theorem State.putPwmLevel_pend : (s.putPwmLevel c v).pend = s.pend := rfl
@[simp] theorem State.putPwmLevel_enabled : (s.putPwmLevel c v).enabled = s.enabled := rfl
@[simp] theorem State.putPwmLevel_inflight : (s.putPwmLevel c v).inflight = s.inflight := rfl

end putPwmLevel

/-! ### putPrescA -/

section putPrescA
variable (v : BitVec 3)

@[simp] theorem State.putPrescA_params : (s.putPrescA v).params = s.params := rfl
@[simp] theorem State.putPrescA_btnRaw : (s.putPrescA v).btnRaw = s.btnRaw := rfl
@[simp] theorem State.putPrescA_inbox : (s.putPrescA v).inbox = s.inbox := rfl
@[simp] theorem State.putPrescA_outbox : (s.putPrescA v).outbox = s.outbox := rfl
@[simp] theorem State.putPrescA_ana : (s.putPrescA v).ana = s.ana := rfl
@[simp] theorem State.putPrescA_mux : (s.putPrescA v).mux = s.mux := rfl
@[simp] theorem State.putPrescA_adcBusy : (s.putPrescA v).adcBusy = s.adcBusy := rfl
@[simp] theorem State.putPrescA_btnState : (s.putPrescA v).btnState = s.btnState := rfl
@[simp] theorem State.putPrescA_btnFall : (s.putPrescA v).btnFall = s.btnFall := rfl
@[simp] theorem State.putPrescA_btnRise : (s.putPrescA v).btnRise = s.btnRise := rfl
@[simp] theorem State.putPrescA_btnCnt : (s.putPrescA v).btnCnt = s.btnCnt := rfl
@[simp] theorem State.putPrescA_tickDiv : (s.putPrescA v).tickDiv = s.tickDiv := rfl
@[simp] theorem State.putPrescA_pwmFreq : (s.putPrescA v).pwmFreq = s.pwmFreq := rfl
@[simp] theorem State.putPrescA_pwmTarget : (s.putPrescA v).pwmTarget = s.pwmTarget := rfl
@[simp] theorem State.putPrescA_pwmLevel : (s.putPrescA v).pwmLevel = s.pwmLevel := rfl
@[simp] theorem State.putPrescA_prescA : (s.putPrescA v).prescA = v := rfl
@[simp] theorem State.putPrescA_prescB : (s.putPrescA v).prescB = s.prescB := rfl
@[simp] theorem State.putPrescA_ocEn : (s.putPrescA v).ocEn = s.ocEn := rfl
@[simp] theorem State.putPrescA_outPort : (s.putPrescA v).outPort = s.outPort := rfl
@[simp] theorem State.putPrescA_phase : (s.putPrescA v).phase = s.phase := rfl
@[simp] theorem State.putPrescA_sel : (s.putPrescA v).sel = s.sel := rfl
@[simp] theorem State.putPrescA_pend : (s.putPrescA v).pend = s.pend := rfl
@[simp] theorem State.putPrescA_enabled : (s.putPrescA v).enabled = s.enabled := rfl
@[simp] theorem State.putPrescA_inflight : (s.putPrescA v).inflight = s.inflight := rfl

end putPrescA

/-! ### putPrescB -/

section putPrescB
variable (v : BitVec 3)

@[simp] theorem State.putPrescB_params : (s.putPrescB v).params = s.params := rfl
@[simp] theorem State.putPrescB_btnRaw : (s.putPrescB v).btnRaw = s.btnRaw := rfl
@[simp] theorem State.putPrescB_inbox : (s.putPrescB v).inbox = s.inbox := rfl
@[simp] theorem State.putPrescB_outbox : (s.putPrescB v).outbox = s.outbox := rfl
@[simp] theorem State.putPrescB_ana : (s.putPrescB v).ana = s.ana := rfl
@[simp] theorem State.putPrescB_mux : (s.putPrescB v).mux = s.mux := rfl
@[simp] theorem State.putPrescB_adcBusy : (s.putPrescB v).adcBusy = s.adcBusy := rfl
@[simp] theorem State.putPrescB_btnState : (s.putPrescB v).btnState = s.btnState := rfl
@[simp] theorem State.putPrescB_btnFall : (s.putPrescB v).btnFall = s.btnFall := rfl
@[simp] theorem State.putPrescB_btnRise : (s.putPrescB v).btnRise = s.btnRise := rfl
@[simp] theorem State.putPrescB_btnCnt : (s.putPrescB v).btnCnt = s.btnCnt := rfl
@[simp] theorem State.putPrescB_tickDiv : (s.putPrescB v).tickDiv = s.tickDiv := rfl
@[simp] theorem State.putPrescB_pwmFreq : (s.putPrescB v).pwmFreq = s.pwmFreq := rfl
@[simp] theorem State.putPrescB_pwmTarget : (s.putPrescB v).pwmTarget = s.pwmTarget := rfl
@[simp] theorem State.putPrescB_pwmLevel : (s.putPrescB v).pwmLevel = s.pwmLevel := rfl
@[simp] theorem State.putPrescB_prescA : (s.putPrescB v).prescA = s.prescA := rfl
@[simp] theorem State.putPrescB_prescB : (s.putPrescB v).prescB = v := rfl
@[simp] theorem State.putPrescB_ocEn : (s.putPrescB v).ocEn = s.ocEn := rfl
@[simp] theorem State.putPrescB_outPort : (s.putPrescB v).outPort = s.outPort := rfl
@[simp] theorem State.putPrescB_phase : (s.putPrescB v).phase = s.phase := rfl
@[simp] theorem State.putPrescB_sel : (s.putPrescB v).sel = s.sel := rfl
@[simp] theorem State.putPrescB_pend : (s.putPrescB v).pend = s.pend := rfl
@[simp] theorem State.putPrescB_enabled : (s.putPrescB v).enabled = s.enabled := rfl
@[simp] theorem State.putPrescB_inflight : (s.putPrescB v).inflight = s.inflight := rfl

end putPrescB

/-! ### putOcEn -/

section putOcEn
variable (c : Fin 3) (v : Bool)

@[simp] theorem State.putOcEn_params : (s.putOcEn c v).params = s.params := rfl
@[simp] theorem State.putOcEn_btnRaw : (s.putOcEn c v).btnRaw = s.btnRaw := rfl
@[simp] theorem State.putOcEn_inbox : (s.putOcEn c v).inbox = s.inbox := rfl
@[simp] theorem State.putOcEn_outbox : (s.putOcEn c v).outbox = s.outbox := rfl
@[simp] theorem State.putOcEn_ana : (s.putOcEn c v).ana = s.ana := rfl
@[simp] theorem State.putOcEn_mux : (s.putOcEn c v).mux = s.mux := rfl
@[simp] theorem State.putOcEn_adcBusy : (s.putOcEn c v).adcBusy = s.adcBusy := rfl
@[simp] theorem State.putOcEn_btnState : (s.putOcEn c v).btnState = s.btnState := rfl
@[simp] theorem State.putOcEn_btnFall : (s.putOcEn c v).btnFall = s.btnFall := rfl
@[simp] theorem State.putOcEn_btnRise : (s.putOcEn c v).btnRise = s.btnRise := rfl
@[simp] theorem State.putOcEn_btnCnt : (s.putOcEn c v).btnCnt = s.btnCnt := rfl
@[simp] theorem State.putOcEn_tickDiv : (s.putOcEn c v).tickDiv = s.tickDiv := rfl
@[simp] theorem State.putOcEn_pwmFreq : (s.putOcEn c v).pwmFreq = s.pwmFreq := rfl
@[simp] theorem State.putOcEn_pwmTarget : (s.putOcEn c v).pwmTarget = s.pwmTarget := rfl
@[simp] theorem State.putOcEn_pwmLevel : (s.putOcEn c v).pwmLevel = s.pwmLevel := rfl
@[simp] theorem State.putOcEn_prescA : (s.putOcEn c v).prescA = s.prescA := rfl
@[simp] theorem State.putOcEn_prescB : (s.putOcEn c v).prescB = s.prescB := rfl
@[simp] theorem State.putOcEn_ocEn : (s.putOcEn c v).ocEn = s.ocEn.set c v := rfl
@[simp] theorem State.putOcEn_outPort : (s.putOcEn c v).outPort = s.outPort := rfl
@[simp] theorem State.putOcEn_phase : (s.putOcEn c v).phase = s.phase := rfl
@[simp] theorem State.putOcEn_sel : (s.putOcEn c v).sel = s.sel := rfl
@[simp] theorem State.putOcEn_pend : (s.putOcEn c v).pend = s.pend := rfl
@[simp] theorem State.putOcEn_enabled : (s.putOcEn c v).enabled = s.enabled := rfl
@[simp] theorem State.putOcEn_inflight : (s.putOcEn c v).inflight = s.inflight := rfl

end putOcEn

/-! ### putOutPort -/

section putOutPort
variable (v : Byte)

@[simp] theorem State.putOutPort_params : (s.putOutPort v).params = s.params := rfl
@[simp] theorem State.putOutPort_btnRaw : (s.putOutPort v).btnRaw = s.btnRaw := rfl
@[simp] theorem State.putOutPort_inbox : (s.putOutPort v).inbox = s.inbox := rfl
@[simp] theorem State.putOutPort_outbox : (s.putOutPort v).outbox = s.outbox := rfl
@[simp] theorem State.putOutPort_ana : (s.putOutPort v).ana = s.ana := rfl
@[simp] theorem State.putOutPort_mux : (s.putOutPort v).mux = s.mux := rfl
@[simp] theorem State.putOutPort_adcBusy : (s.putOutPort v).adcBusy = s.adcBusy := rfl
@[simp] theorem State.putOutPort_btnState : (s.putOutPort v).btnState = s.btnState := rfl
@[simp] theorem State.putOutPort_btnFall : (s.putOutPort v).btnFall = s.btnFall := rfl
@[simp] theorem State.putOutPort_btnRise : (s.putOutPort v).btnRise = s.btnRise := rfl
@[simp] theorem State.putOutPort_btnCnt : (s.putOutPort v).btnCnt = s.btnCnt := rfl
@[simp] theorem State.putOutPort_tickDiv : (s.putOutPort v).tickDiv = s.tickDiv := rfl
@[simp] theorem State.putOutPort_pwmFreq : (s.putOutPort v).pwmFreq = s.pwmFreq := rfl
@[simp] theorem State.putOutPort_pwmTarget : (s.putOutPort v).pwmTarget = s.pwmTarget := rfl
@[simp] theorem State.putOutPort_pwmLevel : (s.putOutPort v).pwmLevel = s.pwmLevel := rfl
@[simp] theorem State.putOutPort_prescA : (s.putOutPort v).prescA = s.prescA := rfl
@[simp] theorem State.putOutPort_prescB : (s.putOutPort v).prescB = s.prescB := rfl
@[simp] theorem State.putOutPort_ocEn : (s.putOutPort v).ocEn = s.ocEn := rfl
@[simp] theorem State.putOutPort_outPort : (s.putOutPort v).outPort = v := rfl
@[simp] theorem State.putOutPort_phase : (s.putOutPort v).phase = s.phase := rfl
@[simp] theorem State.putOutPort_sel : (s.putOutPort v).sel = s.sel := rfl
@[simp] theorem State.putOutPort_pend : (s.putOutPort v).pend = s.pend := rfl
@[simp] theorem State.putOutPort_enabled : (s.putOutPort v).enabled = s.enabled := rfl
@[simp] theorem State.putOutPort_inflight : (s.putOutPort v).inflight = s.inflight := rfl

end putOutPort

/-! ### putPhase -/

section putPhase
variable (v : Phase)

@[simp] theorem State.putPhase_params : (s.putPhase v).params = s.params := rfl
@[simp] theorem State.putPhase_btnRaw : (s.putPhase v).btnRaw = s.btnRaw := rfl
@[simp] theorem State.putPhase_inbox : (s.putPhase v).inbox = s.inbox := rfl
@[simp] theorem State.putPhase_outbox : (s.putPhase v).outbox = s.outbox := rfl
@[simp] theorem State.putPhase_ana : (s.putPhase v).ana = s.ana := rfl
@[simp] theorem State.putPhase_mux : (s.putPhase v).mux = s.mux := rfl
@[simp] theorem State.putPhase_adcBusy : (s.putPhase v).adcBusy = s.adcBusy := rfl
@[simp] theorem State.putPhase_btnState : (s.putPhase v).btnState = s.btnState := rfl
@[simp] theorem State.putPhase_btnFall : (s.putPhase v).btnFall = s.btnFall := rfl
@[simp] theorem State.putPhase_btnRise : (s.putPhase v).btnRise = s.btnRise := rfl
@[simp] theorem State.putPhase_btnCnt : (s.putPhase v).btnCnt = s.btnCnt := rfl
@[simp] theorem State.putPhase_tickDiv : (s.putPhase v).tickDiv = s.tickDiv := rfl
@[simp] theorem State.putPhase_pwmFreq : (s.putPhase v).pwmFreq = s.pwmFreq := rfl
@[simp] theorem State.putPhase_pwmTarget : (s.putPhase v).pwmTarget = s.pwmTarget := rfl
@[simp] theorem State.putPhase_pwmLevel : (s.putPhase v).pwmLevel = s.pwmLevel := rfl
@[simp] theorem State.putPhase_prescA : (s.putPhase v).prescA = s.prescA := rfl
@[simp] theorem State.putPhase_prescB : (s.putPhase v).prescB = s.prescB := rfl
@[simp] theorem State.putPhase_ocEn : (s.putPhase v).ocEn = s.ocEn := rfl
@[simp] theorem State.putPhase_outPort : (s.putPhase v).outPort = s.outPort := rfl
@[simp] theorem State.putPhase_phase : (s.putPhase v).phase = v := rfl
@[simp] theorem State.putPhase_sel : (s.putPhase v).sel = s.sel := rfl
@[simp] theorem State.putPhase_pend : (s.putPhase v).pend = s.pend := rfl
@[simp] theorem State.putPhase_enabled : (s.putPhase v).enabled = s.enabled := rfl
@[simp] theorem State.putPhase_inflight : (s.putPhase v).inflight = s.inflight := rfl

end putPhase

/-! ### putSel -/

section putSel
variable (v : Byte)

@[simp] theorem State.putSel_params : (s.putSel v).params = s.params := rfl
@[simp] theorem State.putSel_btnRaw : (s.putSel v).btnRaw = s.btnRaw := rfl
@[simp] theorem State.putSel_inbox : (s.putSel v).inbox = s.inbox := rfl
@[simp] theorem State.putSel_outbox : (s.putSel v).outbox = s.outbox := rfl
@[simp] theorem State.putSel_ana : (s.putSel v).ana = s.ana := rfl
@[simp] theorem State.putSel_mux : (s.putSel v).mux = s.mux := rfl
@[simp] theorem State.putSel_adcBusy : (s.putSel v).adcBusy = s.adcBusy := rfl
@[simp] theorem State.putSel_btnState : (s.putSel v).btnState = s.btnState := rfl
@[simp] theorem State.putSel_btnFall : (s.putSel v).btnFall = s.btnFall := rfl
@[simp] theorem State.putSel_btnRise : (s.putSel v).btnRise = s.btnRise := rfl
@[simp] theorem State.putSel_btnCnt : (s.putSel v).btnCnt = s.btnCnt := rfl
@[simp] theorem State.putSel_tickDiv : (s.putSel v).tickDiv = s.tickDiv := rfl
@[simp] theorem State.putSel_pwmFreq : (s.putSel v).pwmFreq = s.pwmFreq := rfl
@[simp] theorem State.putSel_pwmTarget : (s.putSel v).pwmTarget = s.pwmTarget := rfl
@[simp] theorem State.putSel_pwmLevel : (s.putSel v).pwmLevel = s.pwmLevel := rfl
@[simp] theorem State.putSel_prescA : (s.putSel v).prescA = s.prescA := rfl
@[simp] theorem State.putSel_prescB : (s.putSel v).prescB = s.prescB := rfl
@[simp] theorem State.putSel_ocEn : (s.putSel v).ocEn = s.ocEn := rfl
@[simp] theorem State.putSel_outPort : (s.putSel v).outPort = s.outPort := rfl
@[simp] theorem State.putSel_phase : (s.putSel v).phase = s.phase := rfl
@[simp] theorem State.putSel_sel : (s.putSel v).sel = v := rfl
@[simp] theorem State.putSel_pend : (s.putSel v).pend = s.pend := rfl
@[simp] theorem State.putSel_enabled : (s.putSel v).enabled = s.enabled := rfl
@[simp] theorem State.putSel_inflight : (s.putSel v).inflight = s.inflight := rfl

end putSel

/-! ### putPend -/

section putPend
variable (v : Byte)

@[simp] theorem State.putPend_params : (s.putPend v).params = s.params := rfl
@[simp] theorem State.putPend_btnRaw : (s.putPend v).btnRaw = s.btnRaw := rfl
@[simp] theorem State.putPend_inbox : (s.putPend v).inbox = s.inbox := rfl
@[simp] theorem State.putPend_outbox : (s.putPend v).outbox = s.outbox := rfl
@[simp] theorem State.putPend_ana : (s.putPend v).ana = s.ana := rfl
@[simp] theorem State.putPend_mux : (s.putPend v).mux = s.mux := rfl
@[simp] theorem State.putPend_adcBusy : (s.putPend v).adcBusy = s.adcBusy := rfl
@[simp] theorem State.putPend_btnState : (s.putPend v).btnState = s.btnState := rfl
@[simp] theorem State.putPend_btnFall : (s.putPend v).btnFall = s.btnFall := rfl
@[simp] theorem State.putPend_btnRise : (s.putPend v).btnRise = s.btnRise := rfl
@[simp] theorem State.putPend_btnCnt : (s.putPend v).btnCnt = s.btnCnt := rfl
@[simp] theorem State.putPend_tickDiv : (s.putPend v).tickDiv = s.tickDiv := rfl
@[simp] theorem State.putPend_pwmFreq : (s.putPend v).pwmFreq = s.pwmFreq := rfl
@[simp] theorem State.putPend_pwmTarget : (s.putPend v).pwmTarget = s.pwmTarget := rfl
@[simp] theorem State.putPend_pwmLevel : (s.putPend v).pwmLevel = s.pwmLevel := rfl
@[simp] theorem State.putPend_prescA : (s.putPend v).prescA = s.prescA := rfl
@[simp] theorem State.putPend_prescB : (s.putPend v).prescB = s.prescB := rfl
@[simp] theorem State.putPend_ocEn : (s.putPend v).ocEn = s.ocEn := rfl
@[simp] theorem State.putPend_outPort : (s.putPend v).outPort = s.outPort := rfl
@[simp] theorem State.putPend_phase : (s.putPend v).phase = s.phase := rfl
@[simp] theorem State.putPend_sel : (s.putPend v).sel = s.sel := rfl
@[simp] theorem State.putPend_pend : (s.putPend v).pend = v := rfl
@[simp] theorem State.putPend_enabled : (s.putPend v).enabled = s.enabled := rfl
@[simp] theorem State.putPend_inflight : (s.putPend v).inflight = s.inflight := rfl

end putPend

/-! ### putEnabled -/

section putEnabled
variable (v : Bool)

@[simp] theorem State.putEnabled_params : (s.putEnabled v).params = s.params := rfl
@[simp] theorem State.putEnabled_btnRaw : (s.putEnabled v).btnRaw = s.btnRaw := rfl
@[simp] theorem State.putEnabled_inbox : (s.putEnabled v).inbox = s.inbox := rfl
@[simp] theorem State.putEnabled_outbox : (s.putEnabled v).outbox = s.outbox := rfl
@[simp] theorem State.putEnabled_ana : (s.putEnabled v).ana = s.ana := rfl
@[simp] theorem State.putEnabled_mux : (s.putEnabled v).mux = s.mux := rfl
@[simp] theorem State.putEnabled_adcBusy : (s.putEnabled v).adcBusy = s.adcBusy := rfl
@[simp] theorem State.putEnabled_btnState : (s.putEnabled v).btnState = s.btnState := rfl
@[simp] theorem State.putEnabled_btnFall : (s.putEnabled v).btnFall = s.btnFall := rfl
@[simp] theorem State.putEnabled_btnRise : (s.putEnabled v).btnRise = s.btnRise := rfl
@[simp] theorem State.putEnabled_btnCnt : (s.putEnabled v).btnCnt = s.btnCnt := rfl
@[simp] theorem State.putEnabled_tickDiv : (s.putEnabled v).tickDiv = s.tickDiv := rfl
@[simp] theorem State.putEnabled_pwmFreq : (s.putEnabled v).pwmFreq = s.pwmFreq := rfl
@[simp] theorem State.putEnabled_pwmTarget : (s.putEnabled v).pwmTarget = s.pwmTarget := rfl
@[simp] theorem State.putEnabled_pwmLevel : (s.putEnabled v).pwmLevel = s.pwmLevel := rfl
@[simp] theorem State.putEnabled_prescA : (s.putEnabled v).prescA = s.prescA := rfl
@[simp] theorem State.putEnabled_prescB : (s.putEnabled v).prescB = s.prescB := rfl
@[simp] theorem State.putEnabled_ocEn : (s.putEnabled v).ocEn = s.ocEn := rfl
@[simp] theorem State.putEnabled_outPort : (s.putEnabled v).outPort = s.outPort := rfl
@[simp] theorem State.putEnabled_phase : (s.putEnabled v).phase = s.phase := rfl
@[simp] theorem State.putEnabled_sel : (s.putEnabled v).sel = s.sel := rfl
@[simp] theorem State.putEnabled_pend : (s.putEnabled v).pend = s.pend := rfl
@[simp] theorem State.putEnabled_enabled : (s.putEnabled v).enabled = v := rfl
@[simp] theorem State.putEnabled_inflight : (s.putEnabled v).inflight = s.inflight := rfl

end putEnabled

/-! ### putInflight -/

section putInflight
variable (v : Option Activation)

@[simp] theorem State.putInflight_params : (s.putInflight v).params = s.params := rfl
@[simp] theorem State.putInflight_btnRaw : (s.putInflight v).btnRaw = s.btnRaw := rfl
@[simp] theorem State.putInflight_inbox : (s.putInflight v).inbox = s.inbox := rfl
@[simp] theorem State.putInflight_outbox : (s.putInflight v).outbox = s.outbox := rfl
@[simp] theorem State.putInflight_ana : (s.putInflight v).ana = s.ana := rfl
@[simp] theorem State.putInflight_mux : (s.putInflight v).mux = s.mux := rfl
@[simp] theorem State.putInflight_adcBusy : (s.putInflight v).adcBusy = s.adcBusy := rfl
@[simp] theorem State.putInflight_btnState : (s.putInflight v).btnState = s.btnState := rfl
@[simp] theorem State.putInflight_btnFall : (s.putInflight v).btnFall = s.btnFall := rfl
@[simp] theorem State.putInflight_btnRise : (s.putInflight v).btnRise = s.btnRise := rfl
@[simp] theorem State.putInflight_btnCnt : (s.putInflight v).btnCnt = s.btnCnt := rfl
@[simp] theorem State.putInflight_tickDiv : (s.putInflight v).tickDiv = s.tickDiv := rfl
@[simp] theorem State.putInflight_pwmFreq : (s.putInflight v).pwmFreq = s.pwmFreq := rfl
@[simp] theorem State.putInflight_pwmTarget : (s.putInflight v).pwmTarget = s.pwmTarget := rfl
@[simp] theorem State.putInflight_pwmLevel : (s.putInflight v).pwmLevel = s.pwmLevel := rfl
@[simp] theorem State.putInflight_prescA : (s.putInflight v).prescA = s.prescA := rfl
@[simp] theorem State.putInflight_prescB : (s.putInflight v).prescB = s.prescB := rfl
@[simp] theorem State.putInflight_ocEn : (s.putInflight v).ocEn = s.ocEn := rfl
@[simp] theorem State.putInflight_outPort : (s.putInflight v).outPort = s.outPort := rfl
@[simp] theorem State.putInflight_phase : (s.putInflight v).phase = s.phase := rfl
@[simp] theorem State.putInflight_sel : (s.putInflight v).sel = s.sel := rfl
@[simp] theorem State.putInflight_pend : (s.putInflight v).pend = s.pend := rfl
@[simp] theorem State.putInflight_enabled : (s.putInflight v).enabled = s.enabled := rfl
@[simp] theorem State.putInflight_inflight : (s.putInflight v).inflight = v := rfl

end putInflight

/-! ### emit -/

section emit
variable (v : PortEvent)

@[simp] theorem State.emit_params : (s.emit v).params = s.params := rfl
@[simp] theorem State.emit_btnRaw : (s.emit v).btnRaw = s.btnRaw := rfl
@[simp] theorem State.emit_inbox : (s.emit v).inbox = s.inbox := rfl
@[simp] theorem State.emit_outbox : (s.emit v).outbox = v :: s.outbox := rfl
@[simp] theorem State.emit_ana : (s.emit v).ana = s.ana := rfl
@[simp] theorem State.emit_mux : (s.emit v).mux = s.mux := rfl
@[simp] theorem State.emit_adcBusy : (s.emit v).adcBusy = s.adcBusy := rfl
@[simp] theorem State.emit_btnState : (s.emit v).btnState = s.btnState := rfl
@[simp] theorem State.emit_btnFall : (s.emit v).btnFall = s.btnFall := rfl
@[simp] theorem State.emit_btnRise : (s.emit v).btnRise = s.btnRise := rfl
@[simp] theorem State.emit_btnCnt : (s.emit v).btnCnt = s.btnCnt := rfl
@[simp] theorem State.emit_tickDiv : (s.emit v).tickDiv = s.tickDiv := rfl
@[simp] theorem State.emit_pwmFreq : (s.emit v).pwmFreq = s.pwmFreq := rfl
@[simp] theorem State.emit_pwmTarget : (s.emit v).pwmTarget = s.pwmTarget := rfl
@[simp] theorem State.emit_pwmLevel : (s.emit v).pwmLevel = s.pwmLevel := rfl
@[simp] theorem State.emit_prescA : (s.emit v).prescA = s.prescA := rfl
@[simp] theorem State.emit_prescB : (s.emit v).prescB = s.prescB := rfl
@[simp] theorem State.emit_ocEn : (s.emit v).ocEn = s.ocEn := rfl
@[simp] theorem State.emit_outPort : (s.emit v).outPort = s.outPort := rfl
@[simp] theorem State.emit_phase : (s.emit v).phase = s.phase := rfl
@[simp] theorem State.emit_sel : (s.emit v).sel = s.sel := rfl
@[simp] theorem State.emit_pend : (s.emit v).pend = s.pend := rfl
@[simp] theorem State.emit_enabled : (s.emit v).enabled = s.enabled := rfl
@[simp] theorem State.emit_inflight : (s.emit v).inflight = s.inflight := rfl

end emit

end Sys2Proof.Machine
end

