-- ==== Sys2Proof/Laws/Ops.lean ====
section
/-! SUPPORT. What the shared operations over registers, bitmaps and the register map do, said once. -/

namespace Sys2Proof.Machine

/-! ### Cells of a register array and bits of a bitmap -/

/-- A read after a write of a register array. -/
theorem vector_get_set {α : Type} {n : Nat} (v : Vector α n) (i j : Fin n) (x : α) :
    (v.set i x)[j] = if i = j then x else v[j] := by
  simp [Vector.getElem_set, Fin.ext_iff]

/-- A read after a write of a bitmap's bit. -/
theorem bitOf_setBit (b : Byte) (i j : Fin 8) (v : Bool) :
    bitOf (setBit b i v) j = if i = j then v else bitOf b j := by
  cases v <;> fin_cases i <;> fin_cases j <;> simp [setBit, bitOf]

/-- Two bitmaps with the same bits are equal. -/
theorem bitmap_ext {a b : Byte} (h : ∀ i : Fin 8, bitOf a i = bitOf b i) : a = b :=
  BitVec.eq_of_getLsbD_eq fun i hi => h ⟨i, hi⟩

/-! ### Delivery -/

/-- An event that ran was delivered: `enabled` was 1. -/
theorem whenEnabled_next {s t : State} {run : State → Host.Outcome State Fault Refusal}
    (h : whenEnabled s run = .next t) : s.enabled = true ∧ run s = .next t := by
  unfold whenEnabled at h
  split at h
  · exact ⟨by assumption, h⟩
  · cases h

/-- While `enabled` is 1 a run-time event is delivered. -/
theorem whenEnabled_of_enabled {s : State} (h : s.enabled = true)
    (run : State → Host.Outcome State Fault Refusal) : whenEnabled s run = run s := by
  simp [whenEnabled, h]

/-- While `enabled` is 0 a run-time event has no step. -/
theorem whenEnabled_of_not_enabled {s : State} (h : s.enabled = false)
    (run : State → Host.Outcome State Fault Refusal) : whenEnabled s run = .fault .notEnabled := by
  simp [whenEnabled, h]

/-! ### The register map, read -/

/-- A read changes nothing but the two clear-on-read bitmaps. -/
theorem clearOnRead_eq (addr : Byte) (s : State) :
    clearOnRead addr s =
      { s with btnFall := if addr = 0x21 then 0 else s.btnFall
               btnRise := if addr = 0x22 then 0 else s.btnRise } := by
  unfold clearOnRead
  split
  · subst addr; rfl
  · split <;> rfl

/-- The rising flag of the changed channel alone, and only for a new level 1 (R144). -/
theorem bitOf_raiseRise (i j : Fin 8) (level : Bool) (rise : Byte) :
    bitOf (raiseRise i level rise) j = if i = j then level || bitOf rise j else bitOf rise j := by
  cases level <;> simp [raiseRise, bitOf_setBit]

/-- The falling flag of the changed channel alone, and only for a new level 0 (R144). -/
theorem bitOf_raiseFall (i j : Fin 8) (level : Bool) (fall : Byte) :
    bitOf (raiseFall i level fall) j = if i = j then !level || bitOf fall j else bitOf fall j := by
  cases level <;> simp [raiseFall, bitOf_setBit]

end Sys2Proof.Machine
end

