-- ==== Sys2Proof/Laws/Pwm.lean ====
section
/-! SUPPORT. What SETFREQ, SETDUTY and INTEGRATE do, said once. -/

namespace Sys2Proof.Machine

/-- SETFREQ changes nothing outside the frequency registers, the prescalers and the enables. -/
theorem setFreq_frame (ch : Nat) (code : Byte) (s : State) :
    ∃ f a b e, setFreq ch code s = { s with pwmFreq := f, prescA := a, prescB := b, ocEn := e } := by
  unfold setFreq
  split
  · exact ⟨_, _, _, _, rfl⟩
  · split
    · exact ⟨_, _, _, _, rfl⟩
    · split
      · exact ⟨_, _, _, _, rfl⟩
      · exact ⟨_, _, _, _, rfl⟩

/-- SETDUTY changes nothing but one target. -/
theorem setDuty_frame (ch : Nat) (duty : Byte) (s : State) :
    ∃ v, setDuty ch duty s = { s with pwmTarget := v } := by
  unfold setDuty
  split <;> exact ⟨_, rfl⟩

/-- An accepted code of the shared prescaler has a hardware code: `remap` is none only for a code that
SETFREQ has rejected. -/
theorem remap_of_accepted {ch : Nat} {code : Byte} (hc : 0 < ch) (h : freqRejected ch code = false) :
    ∃ hw, remap code = some hw := by
  simp only [freqRejected, Bool.or_eq_false_iff, Bool.and_eq_false_iff, decide_eq_false_iff_not] at h
  have h3 : ¬ (code = 3 ∨ code = 5 ∨ 7 < code) := by
    rintro (h' | h' | h')
    · exact (h.2.resolve_left (fun n => n hc)).1 h'
    · exact (h.2.resolve_left (fun n => n hc)).2 h'
    · exact h.1.2 h'
  unfold remap
  rw [if_neg h3]
  split
  · exact ⟨_, rfl⟩
  · split <;> exact ⟨_, rfl⟩

/-- A level moves by at most one unit and never past the target. -/
theorem rampLevel_toNat (cur target : Byte) :
    (rampLevel cur target).toNat =
      if cur.toNat < target.toNat then cur.toNat + 1
      else if target.toNat < cur.toNat then cur.toNat - 1 else cur.toNat := by
  have := cur.isLt
  have := target.isLt
  simp only [rampLevel, BitVec.lt_def]
  split
  · rw [BitVec.toNat_add]; simp; omega
  · split
    · rw [BitVec.toNat_sub]; simp; omega
    · rfl

/-- The ramp of one channel writes that channel's level alone. -/
theorem rampChannel_pwmLevel (c d : Fin 3) (s : State) :
    (rampChannel c s).pwmLevel[d] =
      if c = d then rampLevel s.pwmLevel[d] s.pwmTarget[d] else s.pwmLevel[d] := by
  simp only [rampChannel, State.putPwmLevel_pwmLevel, vector_get_set]
  split
  · subst c; rfl
  · rfl

/-- INTEGRATE writes nothing but the levels. -/
theorem integrate_frame (s : State) : ∃ v, integrate s = { s with pwmLevel := v } := ⟨_, rfl⟩

/-- INTEGRATE steps every level toward its target. -/
theorem integrate_pwmLevel (s : State) (c : Fin 3) :
    (integrate s).pwmLevel[c] = rampLevel s.pwmLevel[c] s.pwmTarget[c] := by
  have ht : ∀ d t, (rampChannel d t).pwmTarget = t.pwmTarget := fun _ _ => rfl
  simp only [integrate, pwmChannels, List.foldl, rampChannel_pwmLevel, ht]
  fin_cases c <;> simp

end Sys2Proof.Machine
end

