-- ==== Sys2Proof/Laws/Protocol.lean ====
section
/-! SUPPORT. What DISPATCH, RX and RQ do, said once. -/

namespace Sys2Proof.Machine

/-- What DISPATCH can do (R65): the seven writable registers, and nothing for any other address. -/
theorem memWrite_cases (reg v : Byte) (s : State) :
    (reg = 0x40 ∧ memWrite reg v s = setFreq 0 v s) ∨ (reg = 0x41 ∧ memWrite reg v s = setDuty 0 v s) ∨
    (reg = 0x42 ∧ memWrite reg v s = setFreq 1 v s) ∨ (reg = 0x43 ∧ memWrite reg v s = setDuty 1 v s) ∨
    (reg = 0x44 ∧ memWrite reg v s = setFreq 2 v s) ∨ (reg = 0x45 ∧ memWrite reg v s = setDuty 2 v s) ∨
    (reg = 0x60 ∧ memWrite reg v s = s.putOutPort v) ∨ (isWriteReg reg = false ∧ memWrite reg v s = s) := by
  by_cases h : isPwmReg reg = true
  · have : reg = 0x40 ∨ reg = 0x41 ∨ reg = 0x42 ∨ reg = 0x43 ∨ reg = 0x44 ∨ reg = 0x45 := by
      simp only [isPwmReg, Bool.and_eq_true, decide_eq_true_eq, BitVec.le_def] at h
      simp only [← BitVec.toNat_inj]
      simp at h ⊢
      omega
    rcases this with rfl | rfl | rfl | rfl | rfl | rfl
    · exact .inl ⟨rfl, rfl⟩
    · exact .inr (.inl ⟨rfl, rfl⟩)
    · exact .inr (.inr (.inl ⟨rfl, rfl⟩))
    · exact .inr (.inr (.inr (.inl ⟨rfl, rfl⟩)))
    · exact .inr (.inr (.inr (.inr (.inl ⟨rfl, rfl⟩))))
    · exact .inr (.inr (.inr (.inr (.inr (.inl ⟨rfl, rfl⟩)))))
  · have hp : isPwmReg reg = false := by simpa using h
    by_cases h60 : reg = 0x60
    · exact .inr (.inr (.inr (.inr (.inr (.inr (.inl ⟨h60, by subst h60; rfl⟩))))))
    · refine .inr (.inr (.inr (.inr (.inr (.inr (.inr ⟨?_, ?_⟩))))))
      · simp [isWriteReg, isPwmReg] at hp ⊢
        exact ⟨hp, h60⟩
      · unfold memWrite; rw [hp]; simp only [Bool.false_eq_true, if_false, if_neg h60]

/-- DISPATCH writes the PWM control state and the output port only. -/
theorem memWrite_frame (reg v : Byte) (s : State) :
    ∃ f t a b e o, memWrite reg v s =
      { s with pwmFreq := f, pwmTarget := t, prescA := a, prescB := b, ocEn := e, outPort := o } := by
  have freq : ∀ ch, ∃ f t a b e o, setFreq ch v s =
      { s with pwmFreq := f, pwmTarget := t, prescA := a, prescB := b, ocEn := e, outPort := o } := by
    intro ch
    obtain ⟨f, a, b, e, h⟩ := setFreq_frame ch v s
    exact ⟨_, _, _, _, _, _, h⟩
  have duty : ∀ ch, ∃ f t a b e o, setDuty ch v s =
      { s with pwmFreq := f, pwmTarget := t, prescA := a, prescB := b, ocEn := e, outPort := o } := by
    intro ch
    obtain ⟨t, h⟩ := setDuty_frame ch v s
    exact ⟨_, _, _, _, _, _, h⟩
  rcases memWrite_cases reg v s with h | h | h | h | h | h | h | h <;> rw [h.2]
  · exact freq 0
  · exact duty 0
  · exact freq 1
  · exact duty 1
  · exact freq 2
  · exact duty 2
  · exact ⟨_, _, _, _, _, _, rfl⟩
  · exact ⟨_, _, _, _, _, _, rfl⟩

/-- What RX does in each phase (R191). -/
theorem rx_cases (byte : Byte) (s : State) :
    (s.phase = .awaitReg ∧ rx byte s = { s with sel := byte, phase := .awaitData }) ∨
    (s.phase = .awaitData ∧
      rx byte s = (memWrite s.sel byte (s.putPend byte)).putPhase .awaitReg) := by
  cases h : s.phase
  · exact .inl ⟨rfl, by unfold rx; rw [h]; rfl⟩
  · exact .inr ⟨rfl, by unfold rx; rw [h]; rfl⟩

/-- What RQ does (R203). -/
theorem rq_eq (s : State) :
    rq s =
      { s with btnFall := if s.sel = 0x21 then 0 else s.btnFall
               btnRise := if s.sel = 0x22 then 0 else s.btnRise
               phase := .awaitReg
               outbox := .txData (regData s.sel s) :: s.outbox } := by
  simp only [rq, memRead, clearOnRead_eq]

end Sys2Proof.Machine
end

