-- ==== Sys2Proof/Laws/Scanner.lean ====
section
/-! SUPPORT. What ADC_DONE does, said once. -/

namespace Sys2Proof.Machine

/-- The input a stored channel comes from (R125): channel `i` from input `i`, none for 8 to 15. -/
theorem storedInput_eq_some (ch : BitVec 4) (i : Fin 8) : storedInput ch = some i ↔ ch.toNat = i.val := by
  unfold storedInput
  have hi := i.isLt
  have hc := ch.isLt
  split <;> rename_i h <;> simp only [BitVec.lt_def, Option.some.injEq, Fin.ext_iff] at h ⊢ <;>
    simp at h ⊢ <;> omega

/-- The cell a conversion stores (R121, R125). -/
theorem storeSample_get (ch : BitVec 4) (sample : Byte) (ana : Vector Byte 8) (i : Fin 8) :
    (storeSample ch sample ana)[i] = if ch.toNat = i.val then sample else ana[i] := by
  unfold storeSample
  cases h : storedInput ch with
  | none =>
    have : ch.toNat ≠ i.val := fun hc => by simp [(storedInput_eq_some ch i).2 hc] at h
    simp [this]
  | some j =>
    have hj := (storedInput_eq_some ch j).1 h
    simp only [vector_get_set, hj, Fin.ext_iff]

end Sys2Proof.Machine
end

