-- ==== Sys2Proof/Laws/Tick.lean ====
section
/-! SUPPORT. What DEBOUNCE, TICK and TOV do, said once: each button channel is a little machine of its
own, and DEBOUNCE steps all eight. -/

namespace Sys2Proof.Machine

/-- What one button channel holds (spec/10_state.md R25 to R28). -/
structure ButtonView where
  level : Bool
  fall : Bool
  rise : Bool
  cnt : Byte
  deriving DecidableEq, Repr

/-- Channel `i` of the state. -/
def State.button (s : State) (i : Fin 8) : ButtonView where
  level := bitOf s.btnState i
  fall := bitOf s.btnFall i
  rise := bitOf s.btnRise i
  cnt := s.btnCnt[i]

/-- One channel's tick (R140), as a function of the channel alone. -/
def ButtonView.tick (ticks : Byte) (raw : Bool) (b : ButtonView) : ButtonView :=
  if b.cnt ≠ 0 then { b with cnt := b.cnt - 1 }
  else if raw = b.level then b
  else { level := raw, fall := !raw || b.fall, rise := raw || b.rise, cnt := ticks }

/-- The registers one channel's step may write. -/
theorem debounceChannel_frame (raw : Byte) (i : Fin 8) (s : State) :
    ∃ l f r c, debounceChannel raw i s =
      { s with btnState := l, btnFall := f, btnRise := r, btnCnt := c } := by
  unfold debounceChannel
  split
  · exact ⟨_, _, _, _, rfl⟩
  · split
    · exact ⟨_, _, _, _, rfl⟩
    · exact ⟨_, _, _, _, rfl⟩

@[simp] theorem debounceChannel_params (raw : Byte) (i : Fin 8) (s : State) :
    (debounceChannel raw i s).params = s.params := by
  obtain ⟨l, f, r, c, h⟩ := debounceChannel_frame raw i s
  rw [h]

/-- A channel's step changes that channel alone (R146). -/
theorem debounceChannel_button (raw : Byte) (i j : Fin 8) (s : State) :
    (debounceChannel raw i s).button j =
      if i = j then (s.button j).tick s.params.debounceTicks (bitOf raw j) else s.button j := by
  by_cases hij : i = j
  · subst hij
    rw [if_pos rfl]
    by_cases hc : s.btnCnt[i] ≠ 0
    · have hb : (s.button i).cnt ≠ 0 := hc
      rw [debounceChannel, if_pos hc, ButtonView.tick, if_pos hb]
      simp only [State.button, State.putBtnCnt_btnState, State.putBtnCnt_btnFall,
        State.putBtnCnt_btnRise, State.putBtnCnt_btnCnt, vector_get_set, if_true]
    · have hb : ¬ (s.button i).cnt ≠ 0 := hc
      rw [debounceChannel, if_neg hc, ButtonView.tick, if_neg hb]
      by_cases hr : bitOf raw i = bitOf s.btnState i
      · have hb' : bitOf raw i = (s.button i).level := hr
        rw [if_pos hr, if_pos hb']
      · have hb' : ¬ bitOf raw i = (s.button i).level := hr
        rw [if_neg hr, if_neg hb', acceptChange]
        simp only [State.button, vector_get_set, bitOf_setBit, bitOf_raiseRise, bitOf_raiseFall, if_true]
  · rw [if_neg hij, debounceChannel]
    split_ifs
    · simp only [State.button, State.putBtnCnt_btnState, State.putBtnCnt_btnFall,
        State.putBtnCnt_btnRise, State.putBtnCnt_btnCnt, vector_get_set, if_neg hij]
    · rfl
    · simp only [acceptChange, State.button, vector_get_set, bitOf_setBit, bitOf_raiseRise,
        bitOf_raiseFall, if_neg hij]

/-- The registers DEBOUNCE may write (R139). -/
theorem debounce_frame (s : State) :
    ∃ l f r c, debounce s = { s with btnState := l, btnFall := f, btnRise := r, btnCnt := c } := by
  have h : ∀ (raw : Byte) (l : List (Fin 8)) (t : State),
      ∃ a f r c, l.foldl (fun t i => debounceChannel raw i t) t =
        { t with btnState := a, btnFall := f, btnRise := r, btnCnt := c } := by
    intro raw l
    induction l with
    | nil => intro t; exact ⟨_, _, _, _, rfl⟩
    | cons i l ih =>
      intro t
      obtain ⟨a, f, r, c, h⟩ := ih (debounceChannel raw i t)
      obtain ⟨a', f', r', c', h'⟩ := debounceChannel_frame raw i t
      exact ⟨a, f, r, c, by rw [List.foldl_cons, h, h']⟩
  exact h _ _ _

/-- DEBOUNCE steps every channel with its bit of the sample. -/
theorem debounce_button (s : State) (j : Fin 8) :
    (debounce s).button j = (s.button j).tick s.params.debounceTicks (bitOf s.btnRaw j) := by
  simp only [debounce, buttonChannels, List.foldl, debounceChannel_button, debounceChannel_params]
  fin_cases j <;> simp

/-- Two button states with the same channels are the same. -/
theorem button_ext {s t : State} (h : ∀ i, s.button i = t.button i) :
    s.btnState = t.btnState ∧ s.btnFall = t.btnFall ∧ s.btnRise = t.btnRise ∧ s.btnCnt = t.btnCnt := by
  refine ⟨bitmap_ext fun i => congrArg ButtonView.level (h i),
    bitmap_ext fun i => congrArg ButtonView.fall (h i),
    bitmap_ext fun i => congrArg ButtonView.rise (h i), ?_⟩
  ext i hi : 1
  exact congrArg ButtonView.cnt (h ⟨i, hi⟩)

/-- The registers a tick may write. -/
theorem tick_frame (s : State) :
    ∃ l f r c v, tick s =
      { s with btnState := l, btnFall := f, btnRise := r, btnCnt := c, pwmLevel := v } := by
  obtain ⟨l, f, r, c, h⟩ := debounce_frame s
  obtain ⟨v, h'⟩ := integrate_frame (debounce s)
  exact ⟨l, f, r, c, v, by rw [tick, h', h]⟩

/-- A tick steps the button channels as DEBOUNCE does; the ramp does not touch them. -/
theorem tick_button (s : State) (j : Fin 8) :
    (tick s).button j = (s.button j).tick s.params.debounceTicks (bitOf s.btnRaw j) := by
  rw [← debounce_button]
  obtain ⟨v, h⟩ := integrate_frame (debounce s)
  simp only [tick, h, State.button]

/-- A tick steps the levels as INTEGRATE does; the debouncer does not touch them. -/
theorem tick_pwmLevel (s : State) (c : Fin 3) :
    (tick s).pwmLevel[c] = rampLevel s.pwmLevel[c] s.pwmTarget[c] := by
  obtain ⟨l, f, r, n, h⟩ := debounce_frame s
  rw [tick, integrate_pwmLevel, h]

/-- A tick neither reads nor writes the divider flag. -/
theorem tick_putTickDiv (s : State) (v : Bool) : tick (s.putTickDiv v) = (tick s).putTickDiv v := by
  have hb := button_ext fun i => show (tick (s.putTickDiv v)).button i = (tick s).button i by
    rw [tick_button, tick_button]; rfl
  have hl : (tick (s.putTickDiv v)).pwmLevel = (tick s).pwmLevel := by
    ext c hc : 1
    have h1 := tick_pwmLevel (s.putTickDiv v) ⟨c, hc⟩
    have h2 := tick_pwmLevel s ⟨c, hc⟩
    exact h1.trans h2.symm
  obtain ⟨a, b, c, d, e, h⟩ := tick_frame s
  obtain ⟨a', b', c', d', e', h'⟩ := tick_frame (s.putTickDiv v)
  rw [h, h'] at hb hl
  rw [h, h']
  simp only at hb hl
  rw [hb.1, hb.2.1, hb.2.2.1, hb.2.2.2, hl]
  rfl

end Sys2Proof.Machine
end

