-- ==== Sys2Proof/Laws/Exec.lean ====
section
/-! SUPPORT. What the meaning of a row can do, said once: the cases of `exec` that answer a next state, and
what a step is when one comes out. -/

namespace Sys2Proof.Machine

/-- RX writes the protocol registers and what DISPATCH writes. -/
theorem rx_frame (byte : Byte) (s : State) :
    ∃ f t a b e o p q d, rx byte s =
      { s with pwmFreq := f, pwmTarget := t, prescA := a, prescB := b, ocEn := e, outPort := o
               phase := p, sel := q, pend := d } := by
  rcases rx_cases byte s with ⟨-, h⟩ | ⟨-, h⟩
  · rw [h]; exact ⟨_, _, _, _, _, _, _, _, _, rfl⟩
  · obtain ⟨f, t, a, b, e, o, hm⟩ := memWrite_frame s.sel byte (s.putPend byte)
    rw [h, hm]; exact ⟨_, _, _, _, _, _, _, _, _, rfl⟩

/-- What a row that answers a next state has done. -/
theorem exec_cases {i : Instr} {s t : State} (h : exec i s = .next t) :
    (Instr.kind i = .receive ∧ s.enabled = true ∧
      ((∃ b, t = rx b s) ∨ ∃ a b, t = rx b (rx a s))) ∨
    (Instr.kind i = .request ∧ s.enabled = true ∧ t = rq s) ∨
    (i = .reset ∧ t = hardReset s) ∨
    (i = .init ∧ s.enabled = false ∧ t = startUp s) ∨
    (i = .tov ∧ s.enabled = true ∧ t = tov s) ∨
    (∃ r, i = .adcDone r ∧ s.enabled = true ∧ s.adcBusy = true ∧ t = adcDone r s) ∨
    (∃ r, i = .btn r ∧ t = s.putBtnRaw r) ∨
    (i = .tick ∧ t = tick s) ∨ (i = .debounce ∧ t = debounce s) ∨ (i = .integrate ∧ t = integrate s) ∨
    (∃ ch code, i = .setfreq ch code ∧ t = setFreq ch code s) ∨
    (∃ ch duty, i = .setduty ch duty ∧ ch < 3 ∧ t = setDuty ch duty s) ∨
    (∃ reg val, i = .dispatch reg val ∧ t = memWrite reg val s) := by
  have write : ∀ reg val, busWrite reg val s = .next t →
      s.enabled = true ∧ t = rx val (rx reg s) := by
    intro reg val hw
    obtain ⟨he, hr⟩ := whenEnabled_next hw
    cases hr
    exact ⟨he, rfl⟩
  have read : ∀ reg, busRead reg s = .next t → s.enabled = true ∧ t = rq s := by
    intro reg hw
    obtain ⟨he, hr⟩ := whenEnabled_next hw
    split at hr
    · cases hr; exact ⟨he, rfl⟩
    · cases hr
  cases i
  case wfreq0 v => exact .inl ⟨rfl, (write _ _ h).1, .inr ⟨_, _, (write _ _ h).2⟩⟩
  case wduty0 v => exact .inl ⟨rfl, (write _ _ h).1, .inr ⟨_, _, (write _ _ h).2⟩⟩
  case wfreq1 v => exact .inl ⟨rfl, (write _ _ h).1, .inr ⟨_, _, (write _ _ h).2⟩⟩
  case wduty1 v => exact .inl ⟨rfl, (write _ _ h).1, .inr ⟨_, _, (write _ _ h).2⟩⟩
  case wfreq2 v => exact .inl ⟨rfl, (write _ _ h).1, .inr ⟨_, _, (write _ _ h).2⟩⟩
  case wduty2 v => exact .inl ⟨rfl, (write _ _ h).1, .inr ⟨_, _, (write _ _ h).2⟩⟩
  case wout v => exact .inl ⟨rfl, (write _ _ h).1, .inr ⟨_, _, (write _ _ h).2⟩⟩
  case wign r v => exact .inl ⟨rfl, (write _ _ h).1, .inr ⟨_, _, (write _ _ h).2⟩⟩
  case rana n => exact .inr (.inl ⟨rfl, read _ h⟩)
  case rbtn => exact .inr (.inl ⟨rfl, read _ h⟩)
  case rfall => exact .inr (.inl ⟨rfl, read _ h⟩)
  case rrise => exact .inr (.inl ⟨rfl, read _ h⟩)
  case rzero r => exact .inr (.inl ⟨rfl, read _ h⟩)
  case rxsel r =>
    simp only [exec, execRxsel] at h
    obtain ⟨he, hr⟩ := whenEnabled_next h
    split at hr
    · rename_i hp
      cases hr
      exact .inl ⟨rfl, he, .inl ⟨r, by unfold rx; rw [hp]⟩⟩
    · cases hr
  case rxdat v =>
    simp only [exec, execRxdat] at h
    obtain ⟨he, hr⟩ := whenEnabled_next h
    split at hr
    · rename_i hp
      cases hr
      exact .inl ⟨rfl, he, .inl ⟨v, by unfold rx; rw [hp]⟩⟩
    · cases hr
  case reset => exact .inr (.inr (.inl ⟨rfl, (Host.Outcome.next.inj h).symm⟩))
  case init =>
    simp only [exec, execInit] at h
    split at h
    · cases h
    · rename_i he
      exact .inr (.inr (.inr (.inl ⟨rfl, by simpa using he, (Host.Outcome.next.inj h).symm⟩)))
  case tov =>
    simp only [exec, execTov] at h
    obtain ⟨he, hr⟩ := whenEnabled_next h
    exact .inr (.inr (.inr (.inr (.inl ⟨rfl, he, (Host.Outcome.next.inj hr).symm⟩))))
  case adcDone r =>
    simp only [exec, execAdcDone] at h
    obtain ⟨he, hr⟩ := whenEnabled_next h
    split at hr
    · rename_i hb
      exact .inr (.inr (.inr (.inr (.inr (.inl ⟨r, rfl, he, hb, (Host.Outcome.next.inj hr).symm⟩)))))
    · cases hr
  case btn r => exact .inr (.inr (.inr (.inr (.inr (.inr (.inl ⟨r, rfl, (Host.Outcome.next.inj h).symm⟩))))))
  case rx b =>
    simp only [exec, execRx] at h
    obtain ⟨he, hr⟩ := whenEnabled_next h
    cases hr
    exact .inl ⟨rfl, he, .inl ⟨b, rfl⟩⟩
  case rq =>
    simp only [exec, execRq] at h
    obtain ⟨he, hr⟩ := whenEnabled_next h
    cases hr
    exact .inr (.inl ⟨rfl, he, rfl⟩)
  case tick => exact .inr (.inr (.inr (.inr (.inr (.inr (.inr (.inl ⟨rfl, (Host.Outcome.next.inj h).symm⟩)))))))
  case debounce => exact .inr (.inr (.inr (.inr (.inr (.inr (.inr (.inr (.inl ⟨rfl, (Host.Outcome.next.inj h).symm⟩))))))))
  case integrate => exact .inr (.inr (.inr (.inr (.inr (.inr (.inr (.inr (.inr (.inl ⟨rfl, (Host.Outcome.next.inj h).symm⟩)))))))))
  case setfreq ch code =>
    exact .inr (.inr (.inr (.inr (.inr (.inr (.inr (.inr (.inr (.inr (.inl ⟨ch, code, rfl, (Host.Outcome.next.inj h).symm⟩))))))))))
  case setduty ch duty =>
    simp only [exec, execSetduty] at h
    split at h
    · rename_i hc
      exact .inr (.inr (.inr (.inr (.inr (.inr (.inr (.inr (.inr (.inr (.inr (.inl ⟨ch, duty, rfl, hc, (Host.Outcome.next.inj h).symm⟩)))))))))))
    · cases h
  case dispatch r v =>
    exact .inr (.inr (.inr (.inr (.inr (.inr (.inr (.inr (.inr (.inr (.inr (.inr ⟨r, v, rfl, (Host.Outcome.next.inj h).symm⟩)))))))))))

/-- With atomic operations and none in progress, a step that has one waits, passes, or runs the row it
reads (R5, R7). -/
theorem step_cases {s t : State} (ha : s.Atomic) (h : step s = .next t) :
    t = s ∨ t = s.takeStimulus ∨
      ∃ i, s.nextInstr = some i ∧ exec i s.takeStimulus = .next t := by
  unfold step runStep at h
  rw [ha.inflight] at h
  simp only at h
  unfold stepIdle at h
  split at h
  · cases h; exact .inl rfl
  · rename_i st rest hin
    split at h
    · cases h; exact .inr (.inl rfl)
    · rename_i e he
      split at h
      · cases h
      · rename_i i hd
        rw [ha.preempt] at h
        refine .inr (.inr ⟨i, ?_, h⟩)
        simp [State.nextInstr, hin, he, hd]

end Sys2Proof.Machine
end

