-- ==== Sys2Proof/Laws/PerInstr.lean ====
section
/-! SUPPORT. Per instruction: the encoder's bits are those of the instruction's own row of
spec/opcode_table.json, its format and its match under its mask. A procedure has no encoding; a result
wider than the stimulus word has no bits. -/

namespace Sys2Proof.Laws.EncodingMatchesRow

/-- The bits an instruction is encoded to match its row of the table. -/
def Statement (i : Instr) : Prop :=
  ∀ e, encode i = some e → e.bits.isSome = true → ∃ r, Instr.row i = some r ∧ r.covers e = true

/-- A word with the given first byte, under the mask of the first byte. -/
theorem wordOf_mask (hi lo : Byte) : wordOf hi lo &&& (0xFF00 : Word) = wordOf hi 0 := by
  apply BitVec.eq_of_getLsbD_eq
  intro i h
  have hm : ∀ i < 16, (0xFF00 : Word).getLsbD i = decide (8 ≤ i) := by decide
  rw [BitVec.getLsbD_and, hm i h, wordOf, wordOf, BitVec.getLsbD_append, BitVec.getLsbD_append]
  by_cases h8 : i < 8
  · simp [h8]
  · simp [h8, show 8 ≤ i by omega]

/-- A stimulus word, under the mask of the kind. -/
theorem stimulusWord_mask (k : BitVec 4) (p : BitVec 12) :
    stimulusWord k p &&& (0xF000 : Word) = stimulusWord k 0 := by
  apply BitVec.eq_of_getLsbD_eq
  intro i h
  have hm : ∀ i < 16, (0xF000 : Word).getLsbD i = decide (12 ≤ i) := by decide
  rw [BitVec.getLsbD_and, hm i h, stimulusWord, stimulusWord, BitVec.getLsbD_append,
    BitVec.getLsbD_append]
  by_cases h12 : i < 12
  · simp [h12]
  · simp [h12, show 12 ≤ i by omega]

theorem wfreq0 (val : Byte) : Statement (.wfreq0 val) := by
  intro e he _
  cases he
  refine ⟨_, rfl, ?_⟩
  simp only [Row.covers, Encoding.bits, wordOf_mask]
  decide

theorem wduty0 (val : Byte) : Statement (.wduty0 val) := by
  intro e he _
  cases he
  refine ⟨_, rfl, ?_⟩
  simp only [Row.covers, Encoding.bits, wordOf_mask]
  decide

theorem wfreq1 (val : Byte) : Statement (.wfreq1 val) := by
  intro e he _
  cases he
  refine ⟨_, rfl, ?_⟩
  simp only [Row.covers, Encoding.bits, wordOf_mask]
  decide

theorem wduty1 (val : Byte) : Statement (.wduty1 val) := by
  intro e he _
  cases he
  refine ⟨_, rfl, ?_⟩
  simp only [Row.covers, Encoding.bits, wordOf_mask]
  decide

theorem wfreq2 (val : Byte) : Statement (.wfreq2 val) := by
  intro e he _
  cases he
  refine ⟨_, rfl, ?_⟩
  simp only [Row.covers, Encoding.bits, wordOf_mask]
  decide

theorem wduty2 (val : Byte) : Statement (.wduty2 val) := by
  intro e he _
  cases he
  refine ⟨_, rfl, ?_⟩
  simp only [Row.covers, Encoding.bits, wordOf_mask]
  decide

theorem wout (val : Byte) : Statement (.wout val) := by
  intro e he _
  cases he
  refine ⟨_, rfl, ?_⟩
  simp only [Row.covers, Encoding.bits, wordOf_mask]
  decide

theorem wign (reg val : Byte) : Statement (.wign reg val) := by
  intro e he _
  cases he
  refine ⟨_, rfl, ?_⟩
  simp [Row.covers, Encoding.bits]

theorem rana (n : BitVec 3) : Statement (.rana n) := by
  intro e he _
  cases he
  refine ⟨_, rfl, ?_⟩
  revert n
  decide

theorem rbtn : Statement .rbtn := by
  intro e he _
  cases he
  exact ⟨_, rfl, by decide⟩

theorem rfall : Statement .rfall := by
  intro e he _
  cases he
  exact ⟨_, rfl, by decide⟩

theorem rrise : Statement .rrise := by
  intro e he _
  cases he
  exact ⟨_, rfl, by decide⟩

theorem rzero (reg : Byte) : Statement (.rzero reg) := by
  intro e he _
  cases he
  refine ⟨_, rfl, ?_⟩
  simp [Row.covers, Encoding.bits]

theorem rxsel (reg : Byte) : Statement (.rxsel reg) := by
  intro e he _
  cases he
  refine ⟨_, rfl, ?_⟩
  simp [Row.covers, Encoding.bits]

theorem rxdat (val : Byte) : Statement (.rxdat val) := by
  intro e he _
  cases he
  refine ⟨_, rfl, ?_⟩
  simp [Row.covers, Encoding.bits]

theorem reset : Statement .reset := by
  intro e he _
  cases he
  exact ⟨_, rfl, by decide⟩

theorem init : Statement .init := by
  intro e he _
  cases he
  exact ⟨_, rfl, by decide⟩

theorem tov : Statement .tov := by
  intro e he _
  cases he
  exact ⟨_, rfl, by decide⟩

theorem adcDone (result : Nat) : Statement (.adcDone result) := by
  intro e he hb
  simp only [encode] at he
  split at he
  · cases he
    refine ⟨_, rfl, ?_⟩
    simp only [Row.covers, Encoding.bits, stimulusWord_mask]
    decide
  · cases he
    cases hb

theorem btn (raw : Byte) : Statement (.btn raw) := by
  intro e he _
  cases he
  refine ⟨_, rfl, ?_⟩
  simp only [Row.covers, Encoding.bits, stimulusWord_mask]
  decide

theorem rx (byte : Byte) : Statement (.rx byte) := by
  intro e he _
  cases he
  refine ⟨_, rfl, ?_⟩
  simp only [Row.covers, Encoding.bits, stimulusWord_mask]
  decide

theorem rq : Statement .rq := by
  intro e he _
  cases he
  exact ⟨_, rfl, by decide⟩

theorem tick : Statement .tick := by
  intro e he
  cases he

theorem debounce : Statement .debounce := by
  intro e he
  cases he

theorem integrate : Statement .integrate := by
  intro e he
  cases he

theorem setfreq (ch : Nat) (code : Byte) : Statement (.setfreq ch code) := by
  intro e he
  cases he

theorem setduty (ch : Nat) (duty : Byte) : Statement (.setduty ch duty) := by
  intro e he
  cases he

theorem dispatch (reg val : Byte) : Statement (.dispatch reg val) := by
  intro e he
  cases he

end Sys2Proof.Laws.EncodingMatchesRow
end

