-- ==== Sys2Proof/Tests/Slice0.lean ====
section
/-! SUPPORT. The model's own tests: the ill-formed terms WellFormed refuses, a written-out word for every
encoded row, one step of each row with results from spec/95_test_vectors.md, and for every statement with
hypotheses a state that meets them. -/

namespace Sys2Proof.Machine

/-- The "reset state" of spec/95_test_vectors.md: RESET followed by INIT. -/
def started : State := { State.reset with enabled := true, adcBusy := true }

/-- The outcome is a next state with the property. -/
def nextHas (o : Host.Outcome State Fault Refusal) (p : State → Bool) : Bool :=
  match o with
  | .next t => p t
  | .fault _ => false
  | .refused _ => false

/-- The outcome is the fault. -/
def faultIs (o : Host.Outcome State Fault Refusal) (f : Fault) : Bool :=
  match o with
  | .next _ => false
  | .fault r => decide (r = f)
  | .refused _ => false

/-! ### WellFormed refuses -/

theorem test_wf_wign_pwm_first : (Instr.wign 0x40 0x01).wf = false := by decide
theorem test_wf_wign_pwm_last : (Instr.wign 0x45 0x01).wf = false := by decide
theorem test_wf_wign_out : (Instr.wign 0x60 0x01).wf = false := by decide
theorem test_wf_wign_beside : (Instr.wign 0x46 0x01).wf = true ∧ (Instr.wign 0x3F 0x01).wf = true := by decide
theorem test_wf_rzero_analog : (Instr.rzero 0x07).wf = false := by decide
theorem test_wf_rzero_bitmaps :
    (Instr.rzero 0x20).wf = false ∧ (Instr.rzero 0x21).wf = false ∧ (Instr.rzero 0x22).wf = false := by decide
theorem test_wf_rzero_beside :
    (Instr.rzero 0x08).wf = true ∧ (Instr.rzero 0x1F).wf = true ∧ (Instr.rzero 0x23).wf = true := by decide
theorem test_wf_setduty_channel : (Instr.setduty 3 0x00).wf = false ∧ (Instr.setduty 2 0x00).wf = true := by decide

/-! ### One written-out word for every encoded row (R91, R93, R95, R111) -/

theorem test_decode_wfreq0 : decode (.w2 0b0100000000000010) = .instr (.wfreq0 0x02) := by decide
theorem test_decode_wduty0 : decode (.w2 0b0100000110000000) = .instr (.wduty0 0x80) := by decide
theorem test_decode_wfreq1 : decode (.w2 0b0100001000000100) = .instr (.wfreq1 0x04) := by decide
theorem test_decode_wduty1 : decode (.w2 0b0100001111111111) = .instr (.wduty1 0xFF) := by decide
theorem test_decode_wfreq2 : decode (.w2 0b0100010000000111) = .instr (.wfreq2 0x07) := by decide
theorem test_decode_wduty2 : decode (.w2 0b0100010100000011) = .instr (.wduty2 0x03) := by decide
theorem test_decode_wout : decode (.w2 0b0110000010101010) = .instr (.wout 0xAA) := by decide
theorem test_decode_wign : decode (.w2 0b1001100100000001) = .instr (.wign 0x99 0x01) := by decide
theorem test_decode_wign_0x46 : decode (.w2 0b0100011000000001) = .instr (.wign 0x46 0x01) := by decide
theorem test_decode_rana : decode (.r1 0b00000011) = .instr (.rana 3) := by decide
theorem test_decode_rbtn : decode (.r1 0b00100000) = .instr .rbtn := by decide
theorem test_decode_rfall : decode (.r1 0b00100001) = .instr .rfall := by decide
theorem test_decode_rrise : decode (.r1 0b00100010) = .instr .rrise := by decide
theorem test_decode_rzero : decode (.r1 0b00001000) = .instr (.rzero 0x08) := by decide
theorem test_decode_rxsel : decode (.b1 .awaitReg 0b01100000) = .instr (.rxsel 0x60) := by decide
theorem test_decode_rxdat : decode (.b1 .awaitData 0b01100000) = .instr (.rxdat 0x60) := by decide
theorem test_decode_reset : decode (.ev 0b0000000000000000) = .instr .reset := by decide
theorem test_decode_init : decode (.ev 0b0001000000000000) = .instr .init := by decide
theorem test_decode_tov : decode (.ev 0b0010000000000000) = .instr .tov := by decide
theorem test_decode_adc : decode (.ev 0b0011001010100111) = .instr (.adcDone 0x2A7) := by decide
theorem test_decode_btn : decode (.ev 0b0100000000000001) = .instr (.btn 0x01) := by decide
theorem test_decode_rx : decode (.ev 0b0101000001000000) = .instr (.rx 0x40) := by decide
theorem test_decode_rq : decode (.ev 0b0110000000000000) = .instr .rq := by decide
theorem test_decode_no_kind : decode (.ev 0b0111000000000000) = .rejected (.noStimulus 0x7) := by decide
theorem test_encode_rx : encode (.rx 0x40) = some (.ev 0x5040) := by decide
theorem test_encode_adc_wide : encode (.adcDone 4095) = some (.ev 0x3FFF) ∧
    encode (.adcDone 4096) = some (.adc 4096) := by decide
theorem test_table_word_write : decodeTableWord 16 0x4002 = some (.wfreq0 0x02) := by decide
theorem test_table_word_event : decodeTableWord 16 0x5040 = some (.rx 0x40) := by decide

/-! ### One step of each row -/

/-- V-PW-9, V-PR-16: 0x0A is not read as code 2. -/
theorem test_wfreq0_rejects : nextHas (exec (.wfreq0 0x0A) started) (fun t => t.pwmFreq[0] = 0 && t.prescA = 0) := by decide
/-- V-PW-4: code 3 is legal on channel 0. -/
theorem test_wfreq0_code3 : nextHas (exec (.wfreq0 0x03) started) (fun t => t.pwmFreq[0] = 3 && t.prescA = 3 && t.ocEn[0]) := by decide
/-- S7. -/
theorem test_wduty0 : nextHas (exec (.wduty0 0x80) started) (fun t => t.pwmTarget[0] = 128 && t.pwmLevel[0] = 0) := by decide
/-- V-PW-15. -/
theorem test_wfreq1_remap : nextHas (exec (.wfreq1 0x04) started)
    (fun t => t.pwmFreq[1] = 4 && t.pwmFreq[2] = 4 && t.prescB = 3 && t.ocEn[1] && t.ocEn[2]) := by decide
/-- V-PW-14. -/
theorem test_wfreq1_rejects : nextHas (exec (.wfreq1 0x03) started) (fun t => t.pwmFreq[1] = 0 && t.prescB = 0) := by decide
/-- R198. -/
theorem test_wduty1 : nextHas (exec (.wduty1 0xFF) started) (fun t => t.pwmTarget[1] = 255 && t.pwmTarget[2] = 0) := by decide
/-- R199. -/
theorem test_wfreq2_remap : nextHas (exec (.wfreq2 0x07) started) (fun t => t.pwmFreq[1] = 7 && t.prescB = 5) := by decide
/-- P5 step 8. -/
theorem test_wduty2 : nextHas (exec (.wduty2 0x03) started) (fun t => t.pwmTarget[2] = 3 && t.sel = 0x45) := by decide
/-- S9. -/
theorem test_wout : nextHas (exec (.wout 0xAA) started) (fun t => t.outPort = 0xAA && t.phase = .awaitReg) := by decide
/-- S10. -/
theorem test_wign : nextHas (exec (.wign 0x99 0x01) started)
    (fun t => t = { started with sel := 0x99, pend := 0x01 }) := by decide
/-- V-PR-15: 0x47 is no duty register. -/
theorem test_wign_0x47 : nextHas (exec (.wign 0x47 0x99) started) (fun t => t.pwmTarget = #v[0, 0, 0]) := by decide
/-- V-PR-6. -/
theorem test_rana : nextHas (exec (.rana 3) { started with sel := 0x03, ana := #v[0, 0, 0, 0xA9, 0, 0, 0, 0] })
    (fun t => t.lastReply = some 0xA9) := by decide
/-- V-PR-5. -/
theorem test_rbtn : nextHas (exec .rbtn { started with sel := 0x20, btnState := 0x81 })
    (fun t => t.lastReply = some 0x81 && t.btnState = 0x81) := by decide
/-- V-PR-2. -/
theorem test_rfall : nextHas (exec .rfall { started with sel := 0x21, btnFall := 0x05, phase := .awaitData })
    (fun t => t.lastReply = some 0x05 && t.btnFall = 0 && t.phase = .awaitReg && t.sel = 0x21) := by decide
/-- V-PR-4. -/
theorem test_rrise : nextHas (exec .rrise { started with sel := 0x22, btnRise := 0x80, btnFall := 0x01 })
    (fun t => t.lastReply = some 0x80 && t.btnRise = 0 && t.btnFall = 0x01) := by decide
/-- V-PR-10. -/
theorem test_rzero : nextHas (exec (.rzero 0x60) { started with sel := 0x60, outPort := 0xAA })
    (fun t => t.lastReply = some 0x00) := by decide
/-- V-PR-1. -/
theorem test_rxsel : nextHas (exec (.rxsel 0x21) started) (fun t => t.sel = 0x21 && t.phase = .awaitData) := by decide
/-- P4 step 3: the byte is data for the register 0x21. -/
theorem test_rxdat : nextHas (exec (.rxdat 0x60) { started with sel := 0x21, phase := .awaitData })
    (fun t => t.pend = 0x60 && t.phase = .awaitReg && t.outPort = 0x00) := by decide
/-- V-RS-1. -/
theorem test_reset : nextHas (exec .reset { started with sel := 0x41, phase := .awaitData, outPort := 0xFF })
    (fun t => t = State.reset) := by decide
/-- V-RS-3. -/
theorem test_init : nextHas (exec .init State.reset) (fun t => t = { started with outbox := [.adcStart 0] }) := by decide
/-- R263: a second INIT has no step. -/
theorem test_init_twice : faultIs (exec .init started) .alreadyInit := by decide
/-- V-TK-1, V-TK-2. -/
theorem test_tov_halves :
    nextHas (exec .tov { started with pwmTarget := #v[10, 0, 0] }) (fun t => t.tickDiv && t.pwmLevel[0] = 0) ∧
    nextHas (exec .tov { started with pwmTarget := #v[10, 0, 0], tickDiv := true })
      (fun t => !t.tickDiv && t.pwmLevel[0] = 1) := by decide
/-- V-TK-5. -/
theorem test_tov_active_one :
    nextHas (exec .tov { started with params := { Params.default with tickActive := true }, pwmTarget := #v[10, 0, 0] })
      (fun t => t.tickDiv && t.pwmLevel[0] = 1) := by decide
/-- V-SC-3, V-SC-7. -/
theorem test_adc : nextHas (exec (.adcDone 0x2A7) { started with mux := 3 })
      (fun t => t.ana = #v[0, 0, 0, 0xA9, 0, 0, 0, 0] && t.mux = 4 && t.outbox = [.adcStart 4]) ∧
    nextHas (exec (.adcDone 0x3FF) { started with mux := 15 }) (fun t => t.ana = started.ana && t.mux = 0) := by decide
/-- V-SC-10, V-SC-11. -/
theorem test_adc_widths :
    nextHas (exec (.adcDone 0x7E) { started with params := { Params.default with adcBits := 8 }, mux := 2 })
      (fun t => t.ana[2] = 0x7E) ∧
    nextHas (exec (.adcDone 0xABC) { started with params := { Params.default with adcBits := 12 }, mux := 2 })
      (fun t => t.ana[2] = 0xAB) := by decide
/-- R109. -/
theorem test_btn : nextHas (exec (.btn 0x01) State.reset) (fun t => t = { State.reset with btnRaw := 0x01 }) := by decide
/-- R191. -/
theorem test_rx : nextHas (exec (.rx 0xAA) { started with sel := 0x60, phase := .awaitData })
    (fun t => t.outPort = 0xAA && t.pend = 0xAA && t.phase = .awaitReg) := by decide
/-- V-RS-2. -/
theorem test_rx_before_init : faultIs (exec (.rx 0x60) State.reset) .notEnabled := by decide
/-- V-RS-4. -/
theorem test_rq : nextHas (exec .rq started) (fun t => t.lastReply = some 0x00) := by decide
/-- V-PR-18: the read closes the pending select. -/
theorem test_rq_closes : nextHas (exec .rq { started with sel := 0x60, phase := .awaitData })
    (fun t => t.phase = .awaitReg && t.lastReply = some 0x00) := by decide
/-- R137: both halves of a tick. -/
theorem test_tick : nextHas (exec .tick { started with btnRaw := 0x01, pwmTarget := #v[2, 0, 0] })
    (fun t => t.btnState = 0x01 && t.pwmLevel = #v[1, 0, 0]) := by decide
/-- V-DB-10. -/
theorem test_debounce_independent :
    nextHas (exec .debounce { started with btnRaw := 0x03, btnCnt := #v[5, 0, 0, 0, 0, 0, 0, 0] })
      (fun t => t.btnState = 0x02 && t.btnRise = 0x02 && t.btnCnt = #v[4, 200, 0, 0, 0, 0, 0, 0]) := by decide
/-- V-DB-3, V-DB-5. -/
theorem test_debounce_falls :
    nextHas (exec .debounce { started with btnState := 0x03, btnCnt := #v[0, 1, 0, 0, 0, 0, 0, 0] })
      (fun t => t.btnState = 0x02 && t.btnFall = 0x01 && t.btnRise = 0 && t.btnCnt[1] = 0) := by decide
/-- V-PW-31, V-PW-27. -/
theorem test_integrate :
    nextHas (exec .integrate { started with pwmLevel := #v[0, 9, 5], pwmTarget := #v[2, 9, 0] })
      (fun t => t.pwmLevel = #v[1, 9, 4]) := by decide
/-- V-PW-24, V-PW-26. -/
theorem test_integrate_ends :
    nextHas (exec .integrate { started with pwmLevel := #v[254, 255, 0], pwmTarget := #v[255, 0, 0] })
      (fun t => t.pwmLevel = #v[255, 254, 0]) := by decide
/-- V-PW-21. -/
theorem test_setfreq_channel3 : nextHas (exec (.setfreq 3 1) started) (fun t => t = started) := by decide
/-- V-PW-17. -/
theorem test_setfreq_code6 : nextHas (exec (.setfreq 2 6) started) (fun t => t.prescB = 4 && t.pwmFreq = #v[0, 6, 6]) := by decide
/-- R167. -/
theorem test_setduty : nextHas (exec (.setduty 2 0x80) started) (fun t => t.pwmTarget = #v[0, 0, 0x80]) := by decide
/-- R65: the address 0x44 is channel 2's code. -/
theorem test_dispatch : nextHas (exec (.dispatch 0x44 0x00) { started with ocEn := #v[true, true, true] })
    (fun t => t.ocEn = #v[true, false, false]) := by decide
/-- R78: under PREEMPT a read that comes whole between a tick's read and its write of a bitmap. -/
theorem test_preempt_read_in_tick :
    nextHas (step { started with
        params := { Params.default with preempt := true }, sel := 0x22, btnRise := 0x01
        inflight := some { source := .tick, todo := [.writeRise 0x03] }, inbox := [.read] })
      (fun t => t.btnRise = 0 && t.lastReply = some 0x01 && t.inflight.isSome) := by decide

/-! ### States that meet the hypotheses of the statements -/

/-- A state of a run: the PWM channels set, a button in its window. -/
def running : State :=
  { started with
    pwmFreq := #v[5, 6, 6], prescA := 5, prescB := 4, ocEn := #v[true, true, true]
    pwmTarget := #v[9, 0, 255], pwmLevel := #v[5, 0, 255]
    btnState := 0x01, btnRise := 0x01, btnCnt := #v[200, 0, 0, 0, 0, 0, 0, 0] }

/-- A state in the middle of a SETFREQ of the shared group, under PREEMPT. -/
def midSetfreq : State :=
  { started with
    params := { Params.default with preempt := true }, pwmFreq := #v[0, 6, 0], phase := .awaitData
    inflight := some { source := .bus, todo := [.writeFreq 2 6, .writePrescB 4, .writePhase .awaitReg] } }

theorem witness_atomic : started.Atomic := ⟨rfl, rfl⟩

theorem witness_EncodeThenDecode : (Instr.wign 0x99 0x01).wf = true ∧
    encode (.wign 0x99 0x01) = some (.w2 0x9901) := by decide
theorem witness_DecodeThenEncode : decodeEv 0x0000 = .instr .reset ∧ decodeEv 0x6000 = .instr .rq := by decide
theorem witness_ReadAddressesSelectRows :
    (0x00 : Byte).toNat ≤ 7 ∧ (0x07 : Byte).toNat ≤ 7 ∧ 8 ≤ (0x08 : Byte).toNat ∧ 8 ≤ (0x1F : Byte).toNat ∧
    8 ≤ (0x23 : Byte).toNat ∧ (0x23 : Byte) ≠ 0x22 ∧ 8 ≤ (0xFF : Byte).toNat := by decide
theorem witness_WordOfNoKindIsRefused :
    ({ started with inbox := [.word 0x7000] } : State).inbox = .word 0x7000 :: [] ∧
    7 ≤ (0x7000 : Word).toNat / 4096 ∧ 7 ≤ (0xFFFF : Word).toNat / 4096 := by decide
theorem witness_StepRunsDecodedEvent :
    ({ started with inbox := [.read] } : State).Atomic ∧
    encodingOf .read { started with inbox := [.read] } = some (.r1 0x00) ∧
    decode (.r1 0x00) = .instr (.rana 0) := ⟨⟨rfl, rfl⟩, by decide, by decide⟩
theorem witness_StepWaitsWithoutEvent : State.reset.inflight = none ∧ State.reset.inbox = [] := by decide
theorem witness_PlacedWordRunsNext : State.reset.params.preempt = false ∧
    decodeTableWord 8 0x21 = some .rfall ∧ decodeTableWord 16 0x1000 = some .init := by decide
theorem witness_InitStartsScanning : State.reset.enabled = false := by decide
theorem witness_UndeliverableEventsHaveNoStep :
    Instr.kind (.rx 0x40) ∈ [Kind.receive, .request, .overflow, .conversion] ∧ State.reset.enabled = false ∧
    ({ started with adcBusy := false } : State).enabled = true ∧
    ({ started with adcBusy := false } : State).adcBusy = false ∧ started.enabled = true := by decide
theorem witness_ConversionStoresAndAdvances :
    started.enabled = true ∧ started.adcBusy = true ∧ started.mux.toNat = (0 : Fin 8).val ∧
    ({ started with mux := 15 } : State).enabled = true := by decide
theorem witness_SweepStoresEachChannelOnce :
    ({ started with inbox := (List.range 16).map .adcDone } : State).Atomic ∧
    (List.range 16).length = 16 ∧ started.adcBusy = true ∧ started.enabled = true :=
  ⟨⟨rfl, rfl⟩, by decide, by decide, by decide⟩
theorem witness_TwoOverflowsRunOneTick :
    ({ started with inbox := List.replicate (2 * 1) (.word 0x2000) } : State).Atomic ∧
    started.enabled = true := ⟨⟨rfl, rfl⟩, by decide⟩
theorem witness_ButtonChannelsAreIndependent :
    (∃ t, exec .debounce started = .next t) ∧
    (∃ t, exec .debounce { started with btnRaw := 0xFE, btnState := 0x80 } = .next t) ∧
    bitOf started.btnRaw 0 = bitOf (0xFE : Byte) 0 ∧ bitOf started.btnState 0 = bitOf (0x80 : Byte) 0 :=
  ⟨⟨_, rfl⟩, ⟨_, rfl⟩, by decide, by decide⟩
/-- With DEBOUNCE_TICKS 2: one accepted change, two ignored ticks, one that compares. -/
theorem witness_AcceptedChangeOpensWindow :
    let s := { started with params := { Params.default with debounceTicks := 2 } }
    s.btnCnt[(0 : Fin 8)] = 0 ∧ bitOf (0x01 : Byte) 0 ≠ bitOf s.btnState 0 ∧
    [(0x00 : Byte), 0x01].length = s.params.debounceTicks.toNat ∧
    bitOf (0x00 : Byte) 0 ≠ bitOf (0x01 : Byte) 0 := by decide
theorem witness_LevelAndTwoOverflowsAreOneTick :
    ({ started with
        inbox := [(0x01 : Byte)].flatMap fun r => [.word (0x40#8 ++ r), .word 0x2000, .word 0x2000] } : State).Atomic ∧
    started.enabled = true := ⟨⟨rfl, rfl⟩, by decide⟩
theorem witness_PortLevelSeenByDebounceOnly :
    Instr.kind .integrate ∉ [Kind.overflow, .tickProc, .debounceProc, .level] := by decide
theorem witness_IntegrateStepsOneUnit :
    running.pwmLevel[(0 : Fin 3)].toNat < running.pwmTarget[(0 : Fin 3)].toNat ∧
    (0 : Byte).toNat < running.pwmLevel[(2 : Fin 3)].toNat ∧
    running.pwmLevel[(1 : Fin 3)] = running.pwmTarget[(1 : Fin 3)] := by decide
/-- Each test of the rejection at its bound. -/
theorem witness_RejectedSetfreqChangesNothing :
    exec (.setfreq 3 1) started = .next started ∧ exec (.setfreq 0 8) started = .next started ∧
    exec (.setfreq 1 3) started = .next started ∧ exec (.setfreq 2 5) started = .next started ∧
    nextHas (exec (.setfreq 0 7) started) (fun t => t ≠ started) ∧
    0x40 ≤ (0x45 : Byte).toNat ∧ (0x45 : Byte).toNat ≤ 0x45 :=
  ⟨rfl, rfl, rfl, rfl, by decide, by decide, by decide⟩
theorem witness_SetdutyRefusesMissingChannel : 3 ≤ 3 := by decide
theorem witness_RepeatedWriteChangesNothing :
    (∃ t, exec (.dispatch 0x40 0x02) started = .next t) ∧ (∃ t, exec (.setfreq 1 4) started = .next t) ∧
    ∃ t, exec (.setduty 2 7) started = .next t := ⟨⟨_, rfl⟩, ⟨_, rfl⟩, ⟨_, rfl⟩⟩
theorem witness_DispatchFollowsRegisterMap :
    ¬ (0x40 ≤ (0x3F : Byte).toNat ∧ (0x3F : Byte).toNat ≤ 0x45) ∧
    ¬ (0x40 ≤ (0x46 : Byte).toNat ∧ (0x46 : Byte).toNat ≤ 0x45) ∧ (0x46 : Byte) ≠ 0x60 := by decide
/-- For Wfreq0SetsChannelZero, DutyWritesSetOneTarget, SharedFreqWritesSetBothChannels,
WoutSetsTheOutputPort, WignChangesOnlyProtocolState, RxselStoresTheAddress, OverflowTogglesThenTicks and
WriteTransactionIsTwoReceivedBytes (its clause of AwaitReg): accepted and rejected values at their bounds. -/
theorem witness_writes_from_AwaitReg :
    started.enabled = true ∧ started.phase = .awaitReg ∧ (0x07 : Byte).toNat ≤ 7 ∧
    ¬ (0x08 : Byte).toNat ≤ 7 ∧ (0x07 : Byte) ∈ [(0 : Byte), 1, 2, 4, 6, 7] ∧
    (0x05 : Byte) ∉ [(0 : Byte), 1, 2, 4, 6, 7] ∧
    ¬ (0x40 ≤ (0x61 : Byte).toNat ∧ (0x61 : Byte).toNat ≤ 0x45) ∧ (0x61 : Byte) ≠ 0x60 := by decide
/-- For RxdatDispatchesToSel and WriteTransactionIsTwoReceivedBytes (its clause of AwaitData). -/
theorem witness_select_open :
    ({ started with phase := .awaitData, sel := 0x21 } : State).enabled = true ∧
    ({ started with phase := .awaitData, sel := 0x21 } : State).phase = .awaitData := by decide
/-- Each event, and both bytes: a select open as well as closed, and INIT before it has been done. -/
theorem witness_PhaseTransitions :
    (∃ t, exec (.rx 0x60) { started with phase := .awaitData } = .next t) ∧
    (∃ t, exec .rq { started with phase := .awaitData } = .next t) ∧ (∃ t, exec .init State.reset = .next t) ∧
    (∃ t, exec (.rx 0x60) started = .next t) ∧ (∃ t, exec .rq started = .next t) ∧
    (∃ t, exec .tov started = .next t) ∧ (∃ t, exec (.adcDone 5) started = .next t) ∧
    ∃ t, exec .reset started = .next t :=
  ⟨⟨_, rfl⟩, ⟨_, rfl⟩, ⟨_, rfl⟩, ⟨_, rfl⟩, ⟨_, rfl⟩, ⟨_, rfl⟩, ⟨_, rfl⟩, ⟨_, rfl⟩⟩
/-- For PlainReadsReplyTheirRegister, EdgeReadsReplyAndClear, RzeroRepliesZero and
RqRepliesTheSelectedRegister: each register selected. -/
theorem witness_reads :
    ({ started with sel := 0x07 } : State).sel.toNat = (7 : BitVec 3).toNat ∧
    ({ started with sel := 0x20 } : State).sel = 0x20 ∧ ({ started with sel := 0x21 } : State).sel = 0x21 ∧
    ({ started with sel := 0x22 } : State).sel = 0x22 ∧ ({ started with sel := 0x08 } : State).sel = 0x08 ∧
    8 ≤ (0x08 : Byte).toNat ∧ (0x08 : Byte) ≠ 0x20 ∧ started.enabled = true := by decide
theorem witness_RqIsTheRowSelSelects :
    started.enabled = true ∧ (0x21 : Byte) ≠ started.sel ∧ Phase.awaitData ≠ started.phase := by decide
theorem witness_SelPersists :
    (∃ t, exec (.rx 0x01) { started with phase := .awaitData } = .next t) ∧
    (∃ t, exec (.rxdat 0x01) { started with phase := .awaitData } = .next t) ∧
    Instr.kind (.rx 0x01) ≠ .reset ∧ Instr.kind .tov ≠ .receive :=
  ⟨⟨_, rfl⟩, ⟨_, rfl⟩, by decide, by decide⟩
theorem witness_SecondRequestReadsAgain :
    ∃ t u, exec .rq { started with sel := 0x21, btnFall := 0x05 } = .next t ∧ exec .rq t = .next u :=
  ⟨_, _, rfl, rfl⟩
/-- For EachRegisterHasItsWriters (every clause has a row that answers), EveryEdgeIsReturnedOnce, LevelNeverJumps and
OutputsComeFromTheirOperations: a tick that moves a level, and a read that clears. -/
theorem witness_exec_next : (∃ t, exec .tov running = .next t) ∧
    (∃ t, exec .rrise { running with sel := 0x22 } = .next t) ∧ Instr.tov ≠ .reset ∧ Instr.rrise ≠ .reset :=
  ⟨⟨_, rfl⟩, ⟨_, rfl⟩, by decide, by decide⟩

theorem running_pwm : running.PwmOk :=
  ⟨by decide, by decide, by decide, by decide, by decide, by decide⟩

theorem running_cnt : running.CntOk := by unfold State.CntOk; decide

/-- The state of a run meets the invariant, whatever is due, and before INIT as well as after it. -/
theorem running_inv (on : Bool) (inbox : List Stimulus) :
    ({ running with enabled := on, adcBusy := on, inbox := inbox } : State).Inv :=
  { params := (by decide : running.params.wf = true)
    atomic := ⟨rfl, rfl⟩
    busy := rfl
    pwm := ⟨running_pwm.prescA, running_pwm.prescB, running_pwm.shared, running_pwm.enable0,
      running_pwm.enable1, running_pwm.enable2⟩
    cnt := running_cnt }

theorem witness_StepKeepsTheInvariant : ({ running with inbox := [.word 0x2000] } : State).Inv ∧
    ∃ t, step { running with inbox := [.word 0x2000] } = .next t := ⟨running_inv true _, ⟨_, rfl⟩⟩

/-- Both faults and the refusal, each in a state with the invariant: an overflow before INIT, a second INIT, a
word of no kind. -/
theorem witness_StepStopsOnlyOnUndeliverableEvents :
    (({ running with enabled := false, adcBusy := false, inbox := [.word 0x2000] } : State).Inv ∧
      faultIs (step { running with enabled := false, adcBusy := false, inbox := [.word 0x2000] })
        .notEnabled = true) ∧
    (({ running with inbox := [.word 0x1000] } : State).Inv ∧
      faultIs (step { running with inbox := [.word 0x1000] }) .alreadyInit = true) ∧
    (({ running with inbox := [.word 0xF000] } : State).Inv ∧
      ∃ r, step { running with inbox := [.word 0xF000] } = .refused r) :=
  ⟨⟨running_inv false _, by decide⟩, ⟨running_inv true _, by decide⟩, ⟨running_inv true _, ⟨_, rfl⟩⟩⟩

theorem witness_SharedGroupStaysLegal : midSetfreq.SharedOk ∧ ∃ t, step midSetfreq = .next t :=
  ⟨{ freq1 := by decide
     freq2 := by decide
     prescB := by decide
     due := by intro a ha; cases ha; decide }, ⟨_, rfl⟩⟩

theorem witness_StepKeepsTheParameters : ∃ t, step midSetfreq = .next t := ⟨_, rfl⟩

/-- An operation of each source. -/
theorem witness_UninterruptedAccessesAreTheOperation :
    started.params.wf = true ∧
    (Instr.source (.rx 0x40) = some .bus ∧ ∃ t, exec (.rx 0x40) started = .next t) ∧
    (Instr.source .rq = some .bus ∧ ∃ t, exec .rq started = .next t) ∧
    (Instr.source .tov = some .tick ∧ ∃ t, exec .tov { started with tickDiv := true } = .next t) ∧
    (Instr.source (.adcDone 5) = some .scanner ∧ ∃ t, exec (.adcDone 5) started = .next t) :=
  ⟨by decide, ⟨rfl, ⟨_, rfl⟩⟩, ⟨rfl, ⟨_, rfl⟩⟩, ⟨rfl, ⟨_, rfl⟩⟩, ⟨rfl, ⟨_, rfl⟩⟩⟩

/-- The clauses of a busy state: an event of the same source and one of another come while a SETFREQ is
made; no event is due; the environment passes. -/
theorem witness_BusyStepPreemptsOrWaits :
    encodingOf .read midSetfreq = some (.r1 0x00) ∧ decode (.r1 0x00) = .instr (.rana 0) ∧
    Instr.source (.rana 0) = some .bus ∧ encodingOf (.word 0x2000) midSetfreq = some (.ev 0x2000) ∧
    decode (.ev 0x2000) = .instr .tov ∧ Instr.source .tov ≠ some .bus ∧
    midSetfreq.inflight.isSome = true ∧ midSetfreq.inbox = [] ∧
    ({ midSetfreq with inbox := [.pass] } : State).inbox = .pass :: [] := by decide

/-- The clauses of an idle state under PREEMPT: an overflow that begins, one before INIT that has no step,
and a level, which is no operation of the block. -/
theorem witness_BusyStepPreemptsOrWaits_idle :
    let s := { started with params := { Params.default with preempt := true } }
    s.params.preempt = true ∧ s.inflight = none ∧ Instr.source .tov = some .tick ∧
    nextHas (exec .tov s) (fun _ => true) = true ∧ faultIs (exec .tov State.reset) .notEnabled = true ∧
    Instr.source (.btn 0x01) = none := by decide

/-- For EachRegisterHasItsWriters: rows that call SETFREQ, SETDUTY and neither, and a select left open. -/
theorem witness_EachRegisterHasItsWriters :
    Instr.target (.wfreq1 4) started = some 0x42 ∧ Instr.target (.wduty2 4) started = some 0x45 ∧
    Instr.target (.wout 4) started = some 0x60 ∧ Instr.target (.rx 4) started = none ∧
    Instr.target (.wfreq1 4) { started with phase := .awaitData, sel := 0x60 } = some 0x60 := by decide

end Sys2Proof.Machine
end

section
/-! The register-map write of R65, address by address: what the family `20_memory.md` states of DISPATCH. -/

namespace Sys2Proof.Machine

/-! ### The rows that write a register, as their procedures -/

theorem exec_dispatch (reg val : Byte) (s : State) :
    exec (.dispatch reg val) s = .next (memWrite reg val s) := rfl

theorem exec_setfreq (ch : Nat) (code : Byte) (s : State) :
    exec (.setfreq ch code) s = .next (setFreq ch code s) := rfl

theorem exec_setduty_of_lt {ch : Nat} (h : ch < 3) (duty : Byte) (s : State) :
    exec (.setduty ch duty) s = .next (setDuty ch duty s) := if_pos h

/-! ### The addresses of R65 -/

theorem isPwmReg_iff (reg : Byte) :
    isPwmReg reg = true ↔ 0x40 ≤ reg.toNat ∧ reg.toNat ≤ 0x45 := by
  simp [isPwmReg, BitVec.le_def]

/-- The even addresses 0x40, 0x42, 0x44 are the frequency registers of the three channels. -/
theorem memWrite_freqReg (c : Fin 3) (v : Byte) (s : State) :
    memWrite (0x40 + 2 * BitVec.ofNat 8 c) v s = setFreq c v s := by
  fin_cases c <;> rfl

/-- The odd addresses 0x41, 0x43, 0x45 are the duty registers of the three channels. -/
theorem memWrite_dutyReg (c : Fin 3) (v : Byte) (s : State) :
    memWrite (0x41 + 2 * BitVec.ofNat 8 c) v s = setDuty c v s := by
  fin_cases c <;> rfl

theorem memWrite_outReg (v : Byte) (s : State) : memWrite 0x60 v s = { s with outPort := v } := rfl

theorem memWrite_of_not_writable {reg : Byte} (hpwm : ¬ (0x40 ≤ reg.toNat ∧ reg.toNat ≤ 0x45))
    (hout : reg ≠ 0x60) (v : Byte) (s : State) : memWrite reg v s = s := by
  rw [← isPwmReg_iff] at hpwm
  rw [memWrite, if_neg hpwm, if_neg hout]

/-- DISPATCH to a frequency register is the row SETFREQ of its channel. -/
theorem exec_setfreq_eq_memWrite (c : Fin 3) (v : Byte) (s : State) :
    exec (.setfreq c v) s = .next (memWrite (0x40 + 2 * BitVec.ofNat 8 c) v s) := by
  rw [exec_setfreq, memWrite_freqReg]

/-- DISPATCH to a duty register is the row SETDUTY of its channel, which R167 does not refuse. -/
theorem exec_setduty_eq_memWrite (c : Fin 3) (v : Byte) (s : State) :
    exec (.setduty c v) s = .next (memWrite (0x41 + 2 * BitVec.ofNat 8 c) v s) := by
  rw [exec_setduty_of_lt c.isLt, memWrite_dutyReg]

/-- Settles O32: the next state is that of `memWrite`, compared with the register map address by address. -/
theorem dispatchFollowsRegisterMap : Obligations.DispatchFollowsRegisterMap := by
  intro reg val s
  refine ⟨memWrite reg val s, exec_dispatch reg val s, ?_, ?_, ?_, ?_, ?_, ?_, ?_, ?_⟩
  · rintro rfl; exact exec_setfreq_eq_memWrite 0 val s
  · rintro rfl; exact exec_setduty_eq_memWrite 0 val s
  · rintro rfl; exact exec_setfreq_eq_memWrite 1 val s
  · rintro rfl; exact exec_setduty_eq_memWrite 1 val s
  · rintro rfl; exact exec_setfreq_eq_memWrite 2 val s
  · rintro rfl; exact exec_setduty_eq_memWrite 2 val s
  · rintro rfl; exact memWrite_outReg val s
  · exact fun hpwm hout => memWrite_of_not_writable hpwm hout val s

end Sys2Proof.Machine
end

section
/-! The PWM controller of the family `42_pwm.md`: the ramp of the levels, SETFREQ's rejections and SETDUTY. -/

namespace Sys2Proof.Machine

/-! ### The ramp step of one level (R168, R169) -/

theorem rampLevel_toNat_of_lt {cur target : Byte} (h : cur.toNat < target.toNat) :
    (rampLevel cur target).toNat = cur.toNat + 1 := by
  rw [rampLevel_toNat, if_pos h]

theorem rampLevel_toNat_of_gt {cur target : Byte} (h : target.toNat < cur.toNat) :
    (rampLevel cur target).toNat + 1 = cur.toNat := by
  rw [rampLevel_toNat, if_neg (by omega), if_pos h]
  omega

@[simp] theorem rampLevel_self (cur : Byte) : rampLevel cur cur = cur := by
  simp [rampLevel]

/-- What one ramp step can do to a level. -/
theorem rampLevel_cases (cur target : Byte) :
    rampLevel cur target = cur ∨
    (cur.toNat < target.toNat ∧ (rampLevel cur target).toNat = cur.toNat + 1) ∨
    (target.toNat < cur.toNat ∧ (rampLevel cur target).toNat + 1 = cur.toNat) := by
  rcases Nat.lt_trichotomy cur.toNat target.toNat with hlt | heq | hgt
  · exact .inr (.inl ⟨hlt, rampLevel_toNat_of_lt hlt⟩)
  · left
    rw [← BitVec.eq_of_toNat_eq heq, rampLevel_self]
  · exact .inr (.inr ⟨hgt, rampLevel_toNat_of_gt hgt⟩)

/-- Settles O25: every level of the next state is the ramp step of the level before, below, above or at its
target. -/
theorem integrateStepsOneUnit : Obligations.IntegrateStepsOneUnit := by
  intro s
  refine ⟨integrate s, rfl, rfl, fun c => ?_⟩
  rw [integrate_pwmLevel]
  refine ⟨rampLevel_toNat_of_lt, rampLevel_toNat_of_gt, fun hat => ?_⟩
  rw [← hat, rampLevel_self]

/-! ### Which operations leave the levels alone (R172) -/

@[simp] theorem setFreq_pwmLevel (ch : Nat) (code : Byte) (s : State) :
    (setFreq ch code s).pwmLevel = s.pwmLevel := by
  obtain ⟨f, a, b, e, h⟩ := setFreq_frame ch code s
  rw [h]

@[simp] theorem setDuty_pwmLevel (ch : Nat) (duty : Byte) (s : State) :
    (setDuty ch duty s).pwmLevel = s.pwmLevel := by
  obtain ⟨v, h⟩ := setDuty_frame ch duty s
  rw [h]

@[simp] theorem memWrite_pwmLevel (reg v : Byte) (s : State) : (memWrite reg v s).pwmLevel = s.pwmLevel := by
  obtain ⟨f, t, a, b, e, o, h⟩ := memWrite_frame reg v s
  rw [h]

@[simp] theorem rx_pwmLevel (byte : Byte) (s : State) : (rx byte s).pwmLevel = s.pwmLevel := by
  obtain ⟨f, t, a, b, e, o, p, q, d, h⟩ := rx_frame byte s
  rw [h]

@[simp] theorem rq_pwmLevel (s : State) : (rq s).pwmLevel = s.pwmLevel := by
  rw [rq_eq]

@[simp] theorem debounce_pwmLevel (s : State) : (debounce s).pwmLevel = s.pwmLevel := by
  obtain ⟨l, f, r, c, h⟩ := debounce_frame s
  rw [h]

/-- TOV leaves the levels alone on the half that runs no tick, and ramps each on the other (R135). -/
theorem tov_pwmLevel_cases (s : State) :
    (tov s).pwmLevel = s.pwmLevel ∨
    ∀ c : Fin 3, (tov s).pwmLevel[c] = rampLevel s.pwmLevel[c] s.pwmTarget[c] := by
  unfold tov
  split
  · exact .inr fun c => tick_pwmLevel _ c
  · exact .inl rfl

/-- What a row other than RESET does to the levels: nothing, or it is a row that may tick and steps each. -/
theorem exec_pwmLevel_cases {i : Instr} {s t : State} (h : exec i s = .next t) (hi : i ≠ .reset) :
    t.pwmLevel = s.pwmLevel ∨
    (Instr.kind i ∈ [Kind.overflow, .tickProc, .integrateProc] ∧
      ∀ c : Fin 3, t.pwmLevel[c] = rampLevel s.pwmLevel[c] s.pwmTarget[c]) := by
  replace h := exec_cases h
  rcases h with ⟨-, -, ⟨b, ht⟩ | ⟨a, b, ht⟩⟩ | ⟨-, -, ht⟩ | ⟨hreset, -⟩ | ⟨-, -, ht⟩ | ⟨htov, -, ht⟩ |
    ⟨r, -, -, -, ht⟩ | ⟨r, -, ht⟩ | ⟨htick, ht⟩ | ⟨-, ht⟩ | ⟨hint, ht⟩ |
    ⟨ch, code, -, ht⟩ | ⟨ch, duty, -, -, ht⟩ | ⟨reg, val, -, ht⟩
  · left; rw [ht, rx_pwmLevel]
  · left; rw [ht, rx_pwmLevel, rx_pwmLevel]
  · left; rw [ht, rq_pwmLevel]
  · exact absurd hreset hi
  · left; rw [ht, startUp]
  · rw [ht, htov]
    exact (tov_pwmLevel_cases s).imp_right fun hramp => ⟨by decide, hramp⟩
  · left; rw [ht, adcDone]
  · left; rw [ht, State.putBtnRaw_pwmLevel]
  · right; rw [ht, htick]
    exact ⟨by decide, tick_pwmLevel s⟩
  · left; rw [ht, debounce_pwmLevel]
  · right; rw [ht, hint]
    exact ⟨by decide, integrate_pwmLevel s⟩
  · left; rw [ht, setFreq_pwmLevel]
  · left; rw [ht, setDuty_pwmLevel]
  · left; rw [ht, memWrite_pwmLevel]

/-- Settles O51: a level is left alone or makes one ramp step. -/
theorem levelNeverJumps : Obligations.LevelNeverJumps := by
  intro i s t c h hi
  rcases exec_pwmLevel_cases h hi with hsame | ⟨hkind, hramp⟩
  · left
    rw [hsame]
  · rw [hramp c]
    exact (rampLevel_cases _ _).imp_right fun hstep => ⟨hkind, hstep⟩

/-! ### SETFREQ's tests and SETDUTY (R94, R161, R162, R167) -/

theorem freqRejected_iff (ch : Nat) (code : Byte) :
    freqRejected ch code = true ↔ 3 ≤ ch ∨ 8 ≤ code.toNat ∨ (0 < ch ∧ (code = 3 ∨ code = 5)) := by
  simp [freqRejected, BitVec.lt_def, Nat.lt_iff_add_one_le, or_assoc]

theorem setFreq_of_rejected {ch : Nat} {code : Byte} (h : freqRejected ch code = true) (s : State) :
    setFreq ch code s = s := if_pos h

/-- Channel 0 stores every code from 0 to 7, the codes 3 and 5 included. -/
theorem setFreq_zero_pwmFreq {code : Byte} (h : code.toNat < 8) (s : State) :
    (setFreq 0 code s).pwmFreq[0] = logicalCode code := by
  have haccepted : ¬ freqRejected 0 code = true := by
    rw [freqRejected_iff]
    omega
  rw [setFreq, if_neg haccepted, if_pos rfl, setFreqA, Vector.getElem_set_self]

theorem channelOf_eq (reg : Byte) : channelOf reg = reg.toNat % 16 / 2 := by
  have hmask : reg.toNat &&& 15 = reg.toNat % 16 := Nat.and_two_pow_sub_one_eq_mod reg.toNat 4
  simp [channelOf, Nat.shiftRight_eq_div_pow, hmask]

theorem setDuty_eq (ch : Fin 3) (duty : Byte) (s : State) :
    setDuty ch duty s = { s with pwmTarget := s.pwmTarget.set ch duty } := dif_pos ch.isLt

/-- Settles O28: the rejected calls are those `freqRejected` names, and channel 0 accepts the codes 3 and 5. -/
theorem rejectedSetfreqChangesNothing : Obligations.RejectedSetfreqChangesNothing := by
  refine ⟨fun ch code s h => ?_, fun reg hlo hhi => ?_, fun s => ?_⟩
  · rw [exec_setfreq, setFreq_of_rejected ((freqRejected_iff ch code).2 h)]
  · rw [channelOf_eq]
    omega
  · exact ⟨setFreq 0 3 s, setFreq 0 5 s, rfl, setFreq_zero_pwmFreq (by decide) s,
      rfl, setFreq_zero_pwmFreq (by decide) s⟩

/-- Settles O29: a channel below 3 is not refused, and its target is the one register written. -/
theorem setdutyStoresTarget : Obligations.SetdutyStoresTarget := by
  intro ch duty s
  rw [exec_setduty_of_lt ch.isLt, setDuty_eq]

end Sys2Proof.Machine
end

section
/-! The register protocol of the family `43_protocol.md`: what a received and a requested byte do, and who
writes `sel`. -/

namespace Sys2Proof.Machine

/-! ### A received byte in each phase (R192, R193) -/

theorem rx_of_awaitReg {s : State} (h : s.phase = .awaitReg) (byte : Byte) :
    rx byte s = { s with sel := byte, phase := .awaitData } := by
  rcases rx_cases byte s with ⟨-, hrx⟩ | ⟨hp, -⟩
  · exact hrx
  · rw [h] at hp; cases hp

theorem rx_of_awaitData {s : State} (h : s.phase = .awaitData) (byte : Byte) :
    rx byte s = { memWrite s.sel byte { s with pend := byte } with phase := .awaitReg } := by
  rcases rx_cases byte s with ⟨hp, -⟩ | ⟨-, hrx⟩
  · rw [h] at hp; cases hp
  · exact hrx

theorem exec_rx_of_enabled {s : State} (he : s.enabled = true) (byte : Byte) :
    exec (.rx byte) s = .next (rx byte s) := by
  rw [exec, execRx, whenEnabled_of_enabled he]

/-- RXSEL is the RX of phase AwaitReg. -/
theorem exec_rxsel_eq_rx {s : State} (he : s.enabled = true) (hp : s.phase = .awaitReg) (reg : Byte) :
    exec (.rxsel reg) s = exec (.rx reg) s := by
  rw [exec_rx_of_enabled he, exec, execRxsel, whenEnabled_of_enabled he, if_pos hp, rx, hp]

/-- RXDAT is the RX of phase AwaitData. -/
theorem exec_rxdat_eq_rx {s : State} (he : s.enabled = true) (hp : s.phase = .awaitData) (val : Byte) :
    exec (.rxdat val) s = exec (.rx val) s := by
  rw [exec_rx_of_enabled he, exec, execRxdat, whenEnabled_of_enabled he, if_pos hp, rx, hp]

/-- Settles O39: RXSEL is the RX of AwaitReg, which stores the byte in `sel`. -/
theorem rxselStoresTheAddress : Obligations.RxselStoresTheAddress := by
  intro reg s he hp
  refine ⟨?_, (exec_rxsel_eq_rx he hp reg).symm⟩
  rw [exec_rxsel_eq_rx he hp, exec_rx_of_enabled he, rx_of_awaitReg hp]

/-! ### What DISPATCH leaves alone -/

@[simp] theorem setFreq_sel (ch : Nat) (code : Byte) (s : State) : (setFreq ch code s).sel = s.sel := by
  obtain ⟨f, a, b, e, h⟩ := setFreq_frame ch code s
  rw [h]

@[simp] theorem setDuty_sel (ch : Nat) (duty : Byte) (s : State) : (setDuty ch duty s).sel = s.sel := by
  obtain ⟨v, h⟩ := setDuty_frame ch duty s
  rw [h]

@[simp] theorem memWrite_sel (reg v : Byte) (s : State) : (memWrite reg v s).sel = s.sel := by
  obtain ⟨f, t, a, b, e, o, h⟩ := memWrite_frame reg v s
  rw [h]

/-- SETFREQ neither reads nor writes `phase`. -/
theorem setFreq_phase_comm (ch : Nat) (code : Byte) (p : Phase) (s : State) :
    setFreq ch code { s with phase := p } = { setFreq ch code s with phase := p } := by
  unfold setFreq
  split
  · rfl
  · split
    · rfl
    · split <;> rfl

/-- SETDUTY neither reads nor writes `phase`. -/
theorem setDuty_phase_comm (ch : Nat) (duty : Byte) (p : Phase) (s : State) :
    setDuty ch duty { s with phase := p } = { setDuty ch duty s with phase := p } := by
  unfold setDuty
  split <;> rfl

/-- DISPATCH neither reads nor writes `phase`. -/
theorem memWrite_phase_comm (reg v : Byte) (p : Phase) (s : State) :
    memWrite reg v { s with phase := p } = { memWrite reg v s with phase := p } := by
  unfold memWrite
  split
  · split
    · exact setDuty_phase_comm _ v p s
    · exact setFreq_phase_comm _ v p s
  · split <;> rfl

/-- Settles O40: RXDAT is the RX of AwaitData, and DISPATCH does not write `sel`. -/
theorem rxdatDispatchesToSel : Obligations.RxdatDispatchesToSel := by
  intro val s he hp
  refine ⟨memWrite s.sel val { s with pend := val }, exec_dispatch _ _ _, ?_, memWrite_sel _ _ _,
    (exec_rxdat_eq_rx he hp val).symm⟩
  rw [exec_rxdat_eq_rx he hp, exec_rx_of_enabled he, rx_of_awaitData hp]

/-! ### The write transaction from AwaitReg (R195 to R202) -/

/-- A write transaction from AwaitReg is the DISPATCH of its pair, with both bytes stored; the select it
opens it closes again. -/
theorem busWrite_of_awaitReg {s : State} (he : s.enabled = true) (hp : s.phase = .awaitReg)
    (reg val : Byte) :
    busWrite reg val s = .next (memWrite reg val { s with sel := reg, pend := val }) := by
  have hclosed : ({ s with sel := reg, pend := val } : State) =
      { s with sel := reg, pend := val, phase := .awaitReg } := by rw [← hp]
  rw [busWrite, whenEnabled_of_enabled he, rx_of_awaitReg hp, rx_of_awaitData rfl, hclosed]
  exact congrArg _ (memWrite_phase_comm reg val .awaitReg
    { s with sel := reg, pend := val, phase := .awaitData }).symm

theorem logicalCode_eq_setWidth (code : Byte) : logicalCode code = code.setWidth 3 :=
  BitVec.setWidth_eq_extractLsb' (by decide) |>.symm

theorem ocEnable_eq_decide (code : Byte) : ocEnable code = decide (code ≠ 0) := by
  simp [ocEnable, bne, beq_eq_decide]

/-- Channel 0 accepts exactly the codes 0 to 7, and writes its own three registers (R161, R164). -/
theorem setFreq_zero (code : Byte) (s : State) :
    setFreq 0 code s =
      if code.toNat ≤ 7 then
        { s with pwmFreq := s.pwmFreq.set 0 (code.setWidth 3), prescA := code.setWidth 3
                 ocEn := s.ocEn.set 0 (decide (code ≠ 0)) }
      else s := by
  have hiff : freqRejected 0 code = true ↔ ¬ code.toNat ≤ 7 := by
    rw [freqRejected_iff]
    omega
  by_cases hcode : code.toNat ≤ 7
  · rw [if_pos hcode, setFreq, if_neg (fun h => hiff.1 h hcode), if_pos rfl, setFreqA,
      logicalCode_eq_setWidth, ocEnable_eq_decide]
  · rw [if_neg hcode, setFreq_of_rejected (hiff.2 hcode)]

/-- Settles O33: the transaction dispatches to 0x40, which is SETFREQ of channel 0. -/
theorem wfreq0SetsChannelZero : Obligations.Wfreq0SetsChannelZero := by
  intro val s he hp
  have hdispatch : exec (.wfreq0 val) s = .next (setFreq 0 val { s with sel := 0x40, pend := val }) :=
    busWrite_of_awaitReg he hp 0x40 val
  rw [hdispatch, setFreq_zero]

/-- Settles O34: the transactions dispatch to 0x41, 0x43 and 0x45, the SETDUTY of the three channels. -/
theorem dutyWritesSetOneTarget : Obligations.DutyWritesSetOneTarget := by
  intro val s he hp
  have hduty (c : Fin 3) (reg : Byte) (hreg : reg = 0x41 + 2 * BitVec.ofNat 8 c) :
      busWrite reg val s =
        .next { s with sel := reg, pend := val, pwmTarget := s.pwmTarget.set c val } := by
    rw [busWrite_of_awaitReg he hp, hreg, memWrite_dutyReg, setDuty_eq]
  exact ⟨hduty 0 0x41 rfl, hduty 1 0x43 rfl, hduty 2 0x45 rfl⟩

/-- Settles O36: the transaction dispatches to 0x60, and the port is the register. -/
theorem woutSetsTheOutputPort : Obligations.WoutSetsTheOutputPort := by
  intro val s he hp
  exact ⟨_, busWrite_of_awaitReg he hp 0x60 val, memWrite_outReg _ _, rfl⟩

/-- Settles O37: DISPATCH to an address that is not writable changes nothing. -/
theorem wignChangesOnlyProtocolState : Obligations.WignChangesOnlyProtocolState := by
  intro reg val s he hp hpwm hout
  have hdispatch : exec (.wign reg val) s = .next (memWrite reg val { s with sel := reg, pend := val }) :=
    busWrite_of_awaitReg he hp reg val
  rw [hdispatch, memWrite_of_not_writable hpwm hout]

/-! ### The register map, read (R64) -/

theorem analogReg_toNat (n : BitVec 3) : (analogReg n).toNat = n.toNat :=
  (BitVec.toNat_append 0#5 n).trans (by simp)

theorem analogIndex_val {addr : Byte} (h : addr.toNat ≤ 7) : (analogIndex addr).val = addr.toNat := by
  simp [analogIndex, Nat.mod_eq_of_lt (Nat.lt_succ_of_le h)]

/-- The map read at any address: the analog registers by number, the bitmaps, and 0x00 elsewhere. -/
theorem regData_eq (addr : Byte) (s : State) :
    regData addr s =
      if addr.toNat ≤ 7 then s.ana.toList.getD addr.toNat 0
      else if addr = 0x20 then s.btnState
      else if addr = 0x21 then s.btnFall
      else if addr = 0x22 then s.btnRise
      else 0 := by
  have hle : addr ≤ 0x07 ↔ addr.toNat ≤ 7 := BitVec.le_def
  unfold regData
  by_cases h : addr.toNat ≤ 7
  · rw [if_pos (hle.2 h), if_pos h]
    simp [analogIndex_val h, Nat.lt_succ_of_le h]
  · rw [if_neg (fun h' => h (hle.1 h')), if_neg h]

theorem regData_of_analog {addr : Byte} {n : BitVec 3} (h : addr.toNat = n.toNat) (s : State) :
    regData addr s = s.ana[n.toFin] := by
  have hn := n.isLt
  rw [regData_eq, if_pos (by omega), h]
  simp [hn]

theorem regData_of_unmapped {addr : Byte} (hana : 8 ≤ addr.toNat) (h20 : addr ≠ 0x20) (h21 : addr ≠ 0x21)
    (h22 : addr ≠ 0x22) (s : State) : regData addr s = 0x00 := by
  rw [regData_eq, if_neg (by omega), if_neg h20, if_neg h21, if_neg h22]

/-! ### A requested byte (R203 to R208) -/

theorem exec_rq_of_enabled {s : State} (he : s.enabled = true) : exec .rq s = .next (rq s) := by
  rw [exec, execRq, whenEnabled_of_enabled he]

/-- A read row that `sel` selects is RQ. -/
theorem busRead_of_selected {s : State} {reg : Byte} (he : s.enabled = true) (hsel : s.sel = reg) :
    busRead reg s = .next (rq s) := by
  rw [busRead, whenEnabled_of_enabled he, if_pos hsel]

/-- RQ of any register but 0x21 and 0x22 has no side effect. -/
theorem rq_of_no_clear {s : State} (h21 : s.sel ≠ 0x21) (h22 : s.sel ≠ 0x22) :
    rq s = { s with phase := .awaitReg, outbox := .txData (regData s.sel s) :: s.outbox } := by
  rw [rq_eq, if_neg h21, if_neg h22]

/-- Settles O45: `rq_eq` with the map read at `sel`. -/
theorem rqRepliesTheSelectedRegister : Obligations.RqRepliesTheSelectedRegister := by
  intro s he
  rw [exec_rq_of_enabled he, rq_eq, regData_eq]

/-- Settles O42: both rows are the RQ of a register that a read does not clear. -/
theorem plainReadsReplyTheirRegister : Obligations.PlainReadsReplyTheirRegister := by
  intro s he
  refine ⟨fun n hn => ?_, fun hsel => ?_⟩
  · have hlt := n.isLt
    have haddr : s.sel = analogReg n := BitVec.eq_of_toNat_eq (hn.trans (analogReg_toNat n).symm)
    have hne (addr : Byte) (hout : 8 ≤ addr.toNat) : s.sel ≠ addr := by rintro rfl; omega
    have hrow : exec (.rana n) s = .next (rq s) := busRead_of_selected he haddr
    rw [hrow, rq_of_no_clear (hne _ (by decide)) (hne _ (by decide)), regData_of_analog hn]
  · have hrow : exec .rbtn s = .next (rq s) := busRead_of_selected he hsel
    rw [hrow, rq_of_no_clear (by rw [hsel]; decide) (by rw [hsel]; decide), hsel]
    rfl

/-- Settles O43: `rq_eq` at the two registers that a read clears. -/
theorem edgeReadsReplyAndClear : Obligations.EdgeReadsReplyAndClear := by
  intro s he
  refine ⟨fun hsel => ?_, fun hsel => ?_⟩
  · have hrow : exec .rfall s = .next (rq s) := busRead_of_selected he hsel
    rw [hrow, rq_eq, hsel]
    rfl
  · have hrow : exec .rrise s = .next (rq s) := busRead_of_selected he hsel
    rw [hrow, rq_eq, hsel]
    rfl

/-- Settles O44: the row is the RQ of an address where the map holds nothing. -/
theorem rzeroRepliesZero : Obligations.RzeroRepliesZero := by
  rintro reg s he rfl hana h20 h21 h22
  have hrow : exec (.rzero s.sel) s = .next (rq s) := busRead_of_selected he rfl
  rw [hrow, rq_of_no_clear h21 h22, regData_of_unmapped hana h20 h21 h22]

/-! ### Who writes `sel` (R210) -/

theorem rx_sel_of_awaitData {s : State} (h : s.phase = .awaitData) (byte : Byte) :
    (rx byte s).sel = s.sel := by
  rw [rx_of_awaitData h]
  exact memWrite_sel s.sel byte _

@[simp] theorem rq_sel (s : State) : (rq s).sel = s.sel := by
  rw [rq_eq]

@[simp] theorem debounce_sel (s : State) : (debounce s).sel = s.sel := by
  obtain ⟨l, f, r, c, h⟩ := debounce_frame s
  rw [h]

@[simp] theorem integrate_sel (s : State) : (integrate s).sel = s.sel := by
  obtain ⟨v, h⟩ := integrate_frame s
  rw [h]

@[simp] theorem tick_sel (s : State) : (tick s).sel = s.sel := by
  rw [tick, integrate_sel, debounce_sel]

@[simp] theorem tov_sel (s : State) : (tov s).sel = s.sel := by
  unfold tov
  split
  · rw [tick_sel, State.putTickDiv_sel]
  · rfl

/-- A row that is neither RESET nor made of RX leaves `sel` alone. -/
theorem exec_sel {i : Instr} {s t : State} (h : exec i s = .next t) (hreset : Instr.kind i ≠ .reset)
    (hreceive : Instr.kind i ≠ .receive) : t.sel = s.sel := by
  replace h := exec_cases h
  rcases h with ⟨hkind, -, -⟩ | ⟨-, -, ht⟩ | ⟨hi, -⟩ | ⟨-, -, ht⟩ | ⟨-, -, ht⟩ |
    ⟨r, -, -, -, ht⟩ | ⟨r, -, ht⟩ | ⟨-, ht⟩ | ⟨-, ht⟩ | ⟨-, ht⟩ |
    ⟨ch, code, -, ht⟩ | ⟨ch, duty, -, -, ht⟩ | ⟨reg, val, -, ht⟩
  · exact absurd hkind hreceive
  · rw [ht, rq_sel]
  · exact absurd (by rw [hi]; rfl) hreset
  · rw [ht, startUp]
  · rw [ht, tov_sel]
  · rw [ht, adcDone]
  · rw [ht, State.putBtnRaw_sel]
  · rw [ht, tick_sel]
  · rw [ht, debounce_sel]
  · rw [ht, integrate_sel]
  · rw [ht, setFreq_sel]
  · rw [ht, setDuty_sel]
  · rw [ht, memWrite_sel]

/-- RXDAT that runs is the RX of an open select. -/
theorem exec_rxdat_next {val : Byte} {s t : State} (h : exec (.rxdat val) s = .next t) :
    s.phase = .awaitData ∧ t = rx val s := by
  rw [exec, execRxdat] at h
  obtain ⟨-, hrun⟩ := whenEnabled_next h
  split at hrun
  next hp =>
    cases hrun
    exact ⟨hp, by rw [rx, hp]⟩
  next => cases hrun

/-- Settles O47: rows without an RX by `exec_sel`; the RX of an open select dispatches, and DISPATCH does not
write `sel`. -/
theorem selPersists : Obligations.SelPersists := by
  intro i s t h hreset
  refine ⟨exec_sel h hreset, ?_, ?_⟩
  · rintro b rfl hp
    rw [exec, execRx] at h
    obtain ⟨-, hrun⟩ := whenEnabled_next h
    cases hrun
    exact rx_sel_of_awaitData hp b
  · rintro b rfl
    obtain ⟨hp, rfl⟩ := exec_rxdat_next h
    exact rx_sel_of_awaitData hp b

end Sys2Proof.Machine
end

section
/-! Decoder and encoder against each other (spec/30_encoding.md): which bits are which row, and that the two
directions agree. -/

namespace Sys2Proof

/-! ### Format W2 (R91, R101) -/

theorem isWriteReg_iff (reg : Byte) :
    isWriteReg reg = true ↔
      reg = 0x40 ∨ reg = 0x41 ∨ reg = 0x42 ∨ reg = 0x43 ∨ reg = 0x44 ∨ reg = 0x45 ∨ reg = 0x60 := by
  simp [isWriteReg, BitVec.le_def, ← BitVec.toNat_inj]
  omega

theorem decodeW2_wordOf_of_not_writable {reg : Byte} (h : isWriteReg reg = false) (val : Byte) :
    decodeW2 (wordOf reg val) = .wign reg val := by
  have hne : ¬ isWriteReg reg = true := by rw [h]; decide
  rw [isWriteReg_iff] at hne
  push Not at hne
  obtain ⟨h40, h41, h42, h43, h44, h45, h60⟩ := hne
  rw [decodeW2, hiByte_wordOf, loByte_wordOf, if_neg h40, if_neg h41, if_neg h42, if_neg h43, if_neg h44,
    if_neg h45, if_neg h60]

/-- The row a first byte selects: one of the seven writable registers, or the default row. -/
theorem decodeW2_wordOf_cases (reg val : Byte) :
    (reg = 0x40 ∧ decodeW2 (wordOf reg val) = .wfreq0 val) ∨
    (reg = 0x41 ∧ decodeW2 (wordOf reg val) = .wduty0 val) ∨
    (reg = 0x42 ∧ decodeW2 (wordOf reg val) = .wfreq1 val) ∨
    (reg = 0x43 ∧ decodeW2 (wordOf reg val) = .wduty1 val) ∨
    (reg = 0x44 ∧ decodeW2 (wordOf reg val) = .wfreq2 val) ∨
    (reg = 0x45 ∧ decodeW2 (wordOf reg val) = .wduty2 val) ∨
    (reg = 0x60 ∧ decodeW2 (wordOf reg val) = .wout val) ∨
    (isWriteReg reg = false ∧ decodeW2 (wordOf reg val) = .wign reg val) := by
  cases h : isWriteReg reg
  case false => simp [decodeW2_wordOf_of_not_writable h]
  case true =>
    rcases (isWriteReg_iff reg).1 h with rfl | rfl | rfl | rfl | rfl | rfl | rfl <;> simp [decodeW2]

/-- A W2 word is a well-formed row with that word (R107). -/
theorem decodeW2_wf_encode (w : Word) :
    (decodeW2 w).wf = true ∧ encode (decodeW2 w) = some (.w2 w) := by
  rw [← wordOf_hiByte_loByte w]
  generalize hiByte w = reg
  generalize loByte w = val
  rcases decodeW2_wordOf_cases reg val with ⟨rfl, h⟩ | ⟨rfl, h⟩ | ⟨rfl, h⟩ | ⟨rfl, h⟩ | ⟨rfl, h⟩ |
    ⟨rfl, h⟩ | ⟨rfl, h⟩ | ⟨hreg, h⟩ <;> rw [h]
  case inr.inr.inr.inr.inr.inr.inr => simp [Instr.wf, hreg, encode]
  all_goals exact ⟨rfl, rfl⟩

/-! ### Format R1 (R92, R102) -/

theorem extractLsb'_hi_eq_zero_iff (sel : Byte) : sel.extractLsb' 3 5 = 0 ↔ sel.toNat ≤ 7 := by
  have := sel.isLt
  simp [← BitVec.toNat_inj, Nat.shiftRight_eq_div_pow]
  omega

theorem isReadReg_iff (sel : Byte) :
    isReadReg sel = true ↔ sel.toNat ≤ 7 ∨ sel = 0x20 ∨ sel = 0x21 ∨ sel = 0x22 := by
  simp [isReadReg, BitVec.le_def, ← BitVec.toNat_inj]
  omega

/-- An analog address is its channel number with five zeros before it (R95). -/
theorem eq_append_of_toNat_le_seven {sel : Byte} (h : sel.toNat ≤ 7) :
    sel = 0#5 ++ sel.extractLsb' 0 3 := by
  apply BitVec.eq_of_toNat_eq
  rw [BitVec.toNat_append]
  simp
  omega

theorem decodeR1_analog (n : BitVec 3) : decodeR1 (0#5 ++ n) = .rana n := by
  revert n
  decide

theorem decodeR1_of_not_readable {sel : Byte} (h : isReadReg sel = false) : decodeR1 sel = .rzero sel := by
  have hne : ¬ isReadReg sel = true := by rw [h]; decide
  rw [isReadReg_iff] at hne
  push Not at hne
  obtain ⟨hana, h20, h21, h22⟩ := hne
  rw [decodeR1, if_neg (mt (extractLsb'_hi_eq_zero_iff sel).1 (by omega)), if_neg h20, if_neg h21, if_neg h22]

/-- The row a value of `sel` selects: an analog register, one of the three bitmaps, or the default row. -/
theorem decodeR1_cases (sel : Byte) :
    (∃ n : BitVec 3, sel = 0#5 ++ n ∧ decodeR1 sel = .rana n) ∨
    (sel = 0x20 ∧ decodeR1 sel = .rbtn) ∨ (sel = 0x21 ∧ decodeR1 sel = .rfall) ∨
    (sel = 0x22 ∧ decodeR1 sel = .rrise) ∨ (isReadReg sel = false ∧ decodeR1 sel = .rzero sel) := by
  cases h : isReadReg sel
  case false => simp [decodeR1_of_not_readable h]
  case true =>
    rcases (isReadReg_iff sel).1 h with hana | rfl | rfl | rfl
    · left
      have hsel := eq_append_of_toNat_le_seven hana
      exact ⟨_, hsel, by rw [hsel, decodeR1_analog, ← hsel]⟩
    all_goals decide

/-- A value of `sel` is a well-formed row with that opcode (R107). -/
theorem decodeR1_wf_encode (sel : Byte) :
    (decodeR1 sel).wf = true ∧ encode (decodeR1 sel) = some (.r1 sel) := by
  rcases decodeR1_cases sel with ⟨n, rfl, h⟩ | ⟨rfl, h⟩ | ⟨rfl, h⟩ | ⟨rfl, h⟩ | ⟨hsel, h⟩ <;> rw [h]
  case inr.inr.inr.inr => simp [Instr.wf, hsel, encode]
  all_goals exact ⟨rfl, rfl⟩

/-! ### Format B1 (R93) -/

theorem decodeB1_wf_encode (p : Phase) (b : Byte) :
    (decodeB1 p b).wf = true ∧ encode (decodeB1 p b) = some (.b1 p b) := by
  cases p <;> exact ⟨rfl, rfl⟩

/-! ### Stimulus words (R111) -/

theorem decodeEv_of_no_kind {w : Word} (h : 7 ≤ (kindOf w).toNat) :
    decodeEv w = .rejected (.noStimulus (kindOf w)) := by
  have hne (k : BitVec 4) (hk : k.toNat < 7) : kindOf w ≠ k := by rintro rfl; omega
  rw [decodeEv, if_neg (hne _ (by decide)), if_neg (hne _ (by decide)), if_neg (hne _ (by decide)),
    if_neg (hne _ (by decide)), if_neg (hne _ (by decide)), if_neg (hne _ (by decide)),
    if_neg (hne _ (by decide))]

/-- The row a kind selects, and that a stimulus word of any other kind is none. -/
theorem decodeEv_cases (w : Word) :
    (kindOf w = 0x0 ∧ decodeEv w = .instr .reset) ∨ (kindOf w = 0x1 ∧ decodeEv w = .instr .init) ∨
    (kindOf w = 0x2 ∧ decodeEv w = .instr .tov) ∨
    (kindOf w = 0x3 ∧ decodeEv w = .instr (.adcDone (payloadOf w).toNat)) ∨
    (kindOf w = 0x4 ∧ decodeEv w = .instr (.btn (loByte w))) ∨
    (kindOf w = 0x5 ∧ decodeEv w = .instr (.rx (loByte w))) ∨
    (kindOf w = 0x6 ∧ decodeEv w = .instr .rq) ∨
    (7 ≤ (kindOf w).toNat ∧ decodeEv w = .rejected (.noStimulus (kindOf w))) := by
  by_cases hlt : (kindOf w).toNat < 7
  · have hkind : kindOf w = 0x0 ∨ kindOf w = 0x1 ∨ kindOf w = 0x2 ∨ kindOf w = 0x3 ∨ kindOf w = 0x4 ∨
        kindOf w = 0x5 ∨ kindOf w = 0x6 := by
      simp only [← BitVec.toNat_inj]
      simp
      omega
    rcases hkind with h | h | h | h | h | h | h <;> simp [decodeEv, h]
  · have hnone : 7 ≤ (kindOf w).toNat := Nat.le_of_not_lt hlt
    simp [decodeEv_of_no_kind hnone, hnone]

/-- A result of twelve bits is the payload of its own word. -/
theorem encode_adcDone_payload (p : BitVec 12) :
    encode (.adcDone p.toNat) = some (.ev (stimulusWord 0x3 p)) := by
  rw [encode, if_pos p.isLt, BitVec.ofNat_toNat, BitVec.setWidth_eq]

theorem decodeEv_adcDone {result : Nat} (h : result < 4096) :
    decodeEv (stimulusWord 0x3 (BitVec.ofNat 12 result)) = .instr (.adcDone result) := by
  simp [decodeEv, Nat.mod_eq_of_lt h]

theorem decode_of_encode_adcDone {result : Nat} {e : Encoding} (h : encode (.adcDone result) = some e) :
    decode e = .instr (.adcDone result) := by
  rw [encode] at h
  split at h
  next hlt =>
    cases h
    exact decodeEv_adcDone hlt
  next =>
    cases h
    rfl

/-- A stimulus word that decodes is a row with a word of the same kind. -/
theorem decodeEv_wf_encode {w : Word} {i : Instr} (h : decodeEv w = .instr i) :
    i.wf = true ∧ ∃ w', encode i = some (.ev w') ∧ kindOf w' = kindOf w := by
  rcases decodeEv_cases w with ⟨hk, hd⟩ | ⟨hk, hd⟩ | ⟨hk, hd⟩ | ⟨hk, hd⟩ | ⟨hk, hd⟩ | ⟨hk, hd⟩ | ⟨hk, hd⟩ |
    ⟨-, hd⟩ <;> rw [hd] at h <;> cases h
  case inr.inr.inr.inl =>
    exact ⟨rfl, _, encode_adcDone_payload _, (kindOf_stimulusWord _ _).trans hk.symm⟩
  all_goals exact ⟨rfl, _, rfl, (kindOf_stimulusWord _ _).trans hk.symm⟩

/-! ### The statements -/

/-- Settles O1, format by format: the W2 rows by their first byte, the R1 rows by `sel`, the stimulus words by
their kind. -/
theorem encodeThenDecode : Obligations.EncodeThenDecode := by
  intro i hwf e he
  cases i
  case adcDone result => exact decode_of_encode_adcDone he
  case wign reg val =>
    cases he
    exact congrArg Decoded.instr (decodeW2_wordOf_of_not_writable (by simpa [Instr.wf] using hwf) val)
  case rzero reg =>
    cases he
    exact congrArg Decoded.instr (decodeR1_of_not_readable (by simpa [Instr.wf] using hwf))
  case rana n =>
    cases he
    exact congrArg Decoded.instr (decodeR1_analog n)
  case wfreq0 | wduty0 | wfreq1 | wduty1 | wfreq2 | wduty2 | wout => cases he; simp [decode, decodeW2]
  case btn | rx => cases he; simp [decode, decodeEv]
  case rbtn | rfall | rrise | rxsel | rxdat | reset | init | tov | rq => cases he; rfl
  case tick | debounce | integrate | setfreq | setduty | dispatch => cases he

/-- Settles O2: each format's own lemma; that the word of a decoded stimulus decodes to it again is O1. -/
theorem decodeThenEncode : Obligations.DecodeThenEncode := by
  refine ⟨decodeW2_wf_encode, decodeR1_wf_encode, decodeB1_wf_encode, fun w i h => ?_⟩
  obtain ⟨hwf, w', he, hk⟩ := decodeEv_wf_encode h
  exact ⟨hwf, w', he, hk, encodeThenDecode i hwf _ he⟩

/-- Settles O3: each writable register by its number, and the default row for every other first byte. -/
theorem writeAddressesSelectRows : Obligations.WriteAddressesSelectRows := by
  intro reg val
  change decodeW2 (wordOf reg val) = _
  rcases decodeW2_wordOf_cases reg val with ⟨rfl, h⟩ | ⟨rfl, h⟩ | ⟨rfl, h⟩ | ⟨rfl, h⟩ | ⟨rfl, h⟩ |
    ⟨rfl, h⟩ | ⟨rfl, h⟩ | ⟨hreg, h⟩
  case inr.inr.inr.inr.inr.inr.inr =>
    have hne (n : Nat) (hn : isWriteReg (BitVec.ofNat 8 n) = true) : reg.toNat ≠ n := by
      rintro rfl
      rw [BitVec.ofNat_toNat, BitVec.setWidth_eq, hreg] at hn
      cases hn
    rw [h]
    split
    case h_8 => rfl
    all_goals
      rename_i heq
      exact absurd heq (hne _ (by decide))
  all_goals exact h

/-- Settles O4: an analog register by its number, each bitmap by its address, and the default row. -/
theorem readAddressesSelectRows : Obligations.ReadAddressesSelectRows := by
  intro sel
  refine ⟨fun hana => ?_, by rintro rfl; decide, by rintro rfl; decide, by rintro rfl; decide, ?_⟩
  · have hsel := eq_append_of_toNat_le_seven hana
    refine ⟨sel.extractLsb' 0 3, ?_, by rw [hsel, decodeR1_analog, ← hsel]⟩
    simp
    omega
  · intro hana h20 h21 h22
    apply decodeR1_of_not_readable
    rw [← Bool.not_eq_true, isReadReg_iff]
    rintro (hle | h | h | h)
    exacts [absurd hle (by omega), h20 h, h21 h, h22 h]

/-- Settles O5, by running the decoder on each word. -/
theorem writtenOutWordsDecode : Obligations.WrittenOutWordsDecode := by
  refine ⟨?_, ?_, ?_, ?_, ?_, ?_, ?_, ?_, ?_, ?_, ?_⟩ <;> decide

end Sys2Proof
end

section
/-! The step (spec/00_scope.md section 3, spec/20_memory.md section 4): what it does with the next stimulus, in an
idle and in a busy state. -/

namespace Sys2Proof.Machine

/-! ### The next stimulus -/

theorem takeStimulus_of_inbox {s : State} {st : Stimulus} {rest : List Stimulus} (h : s.inbox = st :: rest) :
    s.takeStimulus = { s with inbox := rest } := by
  rw [State.takeStimulus, h]
  rfl

theorem step_of_idle {s : State} (h : s.inflight = none) : step s = stepIdle s := by
  rw [step, runStep, h]

theorem step_of_busy {s : State} {a : Activation} (h : s.inflight = some a) : step s = stepBusy a s := by
  rw [step, runStep, h]

section
variable {s : State} {st : Stimulus} {rest : List Stimulus} {e : Encoding} {i : Instr}
  (hin : s.inbox = st :: rest) (he : encodingOf st s = some e)
include hin he

/-- An idle state takes the event whole, or begins its operation under PREEMPT. -/
theorem step_idle_of_event (hd : decode e = .instr i) (hfl : s.inflight = none) :
    step s = if s.params.preempt then beginOperation i { s with inbox := rest }
      else exec i { s with inbox := rest } := by
  simp only [step_of_idle hfl, stepIdle, hin, he, hd, takeStimulus_of_inbox hin]

/-- A busy state goes on with its operation, or takes another source's event whole. -/
theorem step_busy_of_event (hd : decode e = .instr i) {a : Activation} (hfl : s.inflight = some a) :
    step s = if Instr.source i = some a.source then .next (advance a s)
      else exec i { s with inbox := rest } := by
  simp only [step_of_busy hfl, stepBusy, hin, he, hd, takeStimulus_of_inbox hin]

theorem step_of_rejected {kind : BitVec 4} (hd : decode e = .rejected (.noStimulus kind)) :
    step s = .refused (.noStimulus kind) := by
  cases hfl : s.inflight with
  | none => simp only [step_of_idle hfl, stepIdle, hin, he, hd]
  | some a => simp only [step_of_busy hfl, stepBusy, hin, he, hd]

/-- With atomic operations and none in progress the event's row is run (R7). -/
theorem step_atomic_of_event (hd : decode e = .instr i) (ha : s.Atomic) :
    step s = exec i { s with inbox := rest } := by
  rw [step_idle_of_event hin he hd ha.inflight, ha.preempt, if_neg Bool.false_ne_true]

end

theorem step_idle_of_empty {s : State} (hfl : s.inflight = none) (hin : s.inbox = []) : step s = .next s := by
  simp only [step_of_idle hfl, stepIdle, hin]

theorem step_busy_of_empty {s : State} {a : Activation} (hfl : s.inflight = some a) (hin : s.inbox = []) :
    step s = .next (advance a s) := by
  simp only [step_of_busy hfl, stepBusy, hin]

/-- What is taken and is no row is the environment's pass. -/
theorem step_busy_of_no_encoding {s : State} {a : Activation} {st : Stimulus} {rest : List Stimulus}
    (hfl : s.inflight = some a) (hin : s.inbox = st :: rest) (he : encodingOf st s = none) :
    step s = .next (advance a { s with inbox := rest }) := by
  simp only [step_of_busy hfl, stepBusy, hin, he, takeStimulus_of_inbox hin]

theorem step_idle_of_no_encoding {s : State} {st : Stimulus} {rest : List Stimulus}
    (hfl : s.inflight = none) (hin : s.inbox = st :: rest) (he : encodingOf st s = none) :
    step s = .next { s with inbox := rest } := by
  simp only [step_of_idle hfl, stepIdle, hin, he, takeStimulus_of_inbox hin]

/-! ### The beginning of an operation -/

/-- An event without a source is taken whole. -/
theorem beginOperation_of_no_source {i : Instr} (h : Instr.source i = none) (s : State) :
    beginOperation i s = exec i s := by
  simp only [beginOperation, activationOf, h, Option.map_none]

/-- An event of a source begins its operation where the atomic operation has a step. -/
theorem beginOperation_of_next {i : Instr} {source : Source} {s t : State} (h : Instr.source i = some source)
    (hexec : exec i s = .next t) :
    beginOperation i s =
      .next { s with inflight := some { source := source, todo := openingAccesses i } } := by
  simp only [beginOperation, activationOf, h, Option.map_some, hexec]
  rfl

/-- An event stops as the atomic operation stops. -/
theorem beginOperation_of_no_next {i : Instr} {s : State} (h : ∀ t, exec i s ≠ .next t) :
    beginOperation i s = exec i s := by
  unfold beginOperation
  split
  · rfl
  · cases hexec : exec i s with
    | next t => exact absurd hexec (h t)
    | fault r => rfl
    | refused r => rfl

/-! ### What a step that answers a next state has done, in both settings of PREEMPT -/

theorem beginOperation_next {i : Instr} {s t : State} (h : beginOperation i s = .next t) :
    exec i s = .next t ∨
      ∃ source, t = s.putInflight (some { source := source, todo := openingAccesses i }) := by
  cases hs : Instr.source i with
  | none => exact .inl (by rw [← beginOperation_of_no_source hs, h])
  | some source =>
    by_cases hnext : ∃ u, exec i s = .next u
    · obtain ⟨u, hu⟩ := hnext
      rw [beginOperation_of_next hs hu] at h
      exact .inr ⟨source, (Host.Outcome.next.inj h).symm⟩
    · left
      rw [← beginOperation_of_no_next (by simpa using hnext), h]

/-- A step waits, makes an access, runs a row whole, or begins an operation; the state it does this in is the
state before, but for the inbox. -/
theorem step_next_cases {s t : State} (h : step s = .next t) :
    ∃ inbox, t = s.putInbox inbox ∨ (∃ a, s.inflight = some a ∧ t = advance a (s.putInbox inbox)) ∨
      (∃ i, exec i (s.putInbox inbox) = .next t) ∨
      ∃ i source, t = (s.putInbox inbox).putInflight
        (some { source := source, todo := openingAccesses i }) := by
  cases hin : s.inbox with
  | nil =>
    refine ⟨s.inbox, ?_⟩
    cases hfl : s.inflight with
    | none =>
      rw [step_idle_of_empty hfl hin] at h
      exact .inl (Host.Outcome.next.inj h).symm
    | some a =>
      rw [step_busy_of_empty hfl hin] at h
      exact .inr (.inl ⟨a, rfl, (Host.Outcome.next.inj h).symm⟩)
  | cons st rest =>
    cases he : encodingOf st s with
    | none =>
      refine ⟨rest, ?_⟩
      cases hfl : s.inflight with
      | none =>
        rw [step_idle_of_no_encoding hfl hin he] at h
        exact .inl (Host.Outcome.next.inj h).symm
      | some a =>
        rw [step_busy_of_no_encoding hfl hin he] at h
        exact .inr (.inl ⟨a, rfl, (Host.Outcome.next.inj h).symm⟩)
    | some e =>
      cases hd : decode e with
      | rejected why =>
        cases why
        rw [step_of_rejected hin he hd] at h
        cases h
      | instr i =>
        cases hfl : s.inflight with
        | none =>
          refine ⟨rest, .inr (.inr ?_)⟩
          rw [step_idle_of_event hin he hd hfl] at h
          split at h
          · exact (beginOperation_next h).imp (fun hexec => ⟨i, hexec⟩) (fun hbegin => ⟨i, hbegin⟩)
          · exact .inl ⟨i, h⟩
        | some a =>
          rw [step_busy_of_event hin he hd hfl] at h
          split at h
          · exact ⟨s.inbox, .inr (.inl ⟨a, rfl, (Host.Outcome.next.inj h).symm⟩)⟩
          · exact ⟨rest, .inr (.inr (.inl ⟨i, h⟩))⟩

/-! ### The statements -/

/-- Settles O7: in an atomic idle state the event's row is run whole. -/
theorem stepRunsDecodedEvent : Obligations.StepRunsDecodedEvent :=
  fun _ _ _ _ _ ha hin he hd => step_atomic_of_event hin he hd ha

/-- Settles O8: an idle state with an empty inbox waits. -/
theorem stepWaitsWithoutEvent : Obligations.StepWaitsWithoutEvent := fun _ => step_idle_of_empty

theorem kindOf_toNat (w : Word) : (kindOf w).toNat = w.toNat / 4096 := by
  have := w.isLt
  simp [kindOf, Nat.shiftRight_eq_div_pow]
  omega

/-- Settles O6: the decoder rejects a kind of 7 or more, and an idle and a busy step refuse what it rejects. -/
theorem wordOfNoKindIsRefused : Obligations.WordOfNoKindIsRefused := by
  intro s w rest hin hkind
  rw [← kindOf_toNat] at hkind
  exact step_of_rejected hin rfl (decodeEv_of_no_kind hkind)

/-- An operation's next access is made, and those it leads to come first (R76). -/
theorem advance_cons (source : Source) (op : Access) (later : List Access) (s : State) :
    advance { source := source, todo := op :: later } s =
      { (op.run s).1 with
        inflight :=
          if (op.run s).2 ++ later = [] then none
          else some { source := source, todo := (op.run s).2 ++ later } } := by
  unfold advance
  simp only
  generalize (op.run s).2 ++ later = todo
  cases todo <;> rfl

/-- Settles O59, clause by clause from the lemmas on a busy and an idle step. -/
theorem busyStepPreemptsOrWaits : Obligations.BusyStepPreemptsOrWaits := by
  refine ⟨fun s a st rest e i hfl hin he hd => ?_, fun s a => step_busy_of_empty,
    fun s a rest hfl hin => step_busy_of_no_encoding hfl hin rfl,
    fun s source op later => advance_cons source op later s,
    fun s st rest e i hp hfl hin he hd => ?_⟩
  · rw [step_busy_of_event hin he hd hfl]
    exact ⟨fun hs => if_pos hs, fun hs => if_neg hs⟩
  · rw [step_idle_of_event hin he hd hfl, if_pos hp]
    exact ⟨fun source t hs => beginOperation_of_next hs, beginOperation_of_no_next,
      fun hs => beginOperation_of_no_source hs _⟩

/-! ### A placed table word (notes/assumptions/2.md) -/

/-- The encodings a table word is read as: no byte and no result of the port. -/
theorem tableEncoding_cases {nbits w : Nat} {e : Encoding} (h : tableEncoding nbits w = some e) :
    (∃ sel, e = .r1 sel) ∨ (∃ v, e = .w2 v) ∨ ∃ v, e = .ev v := by
  unfold tableEncoding at h
  split at h
  · cases h; exact .inl ⟨_, rfl⟩
  · split at h
    · split at h
      · cases h; exact .inr (.inl ⟨_, rfl⟩)
      · split at h <;> cases h
        · exact .inr (.inr ⟨_, rfl⟩)
        · exact .inr (.inl ⟨_, rfl⟩)
    · cases h

/-- A placed stimulus word is the next stimulus of an idle state. -/
theorem placeEvent_delivers (v : Word) (s : State) :
    (s.placeEvent v).inbox = .word v :: s.inbox ∧ (s.placeEvent v).inflight = none ∧
      (s.placeEvent v).params = s.params := by
  unfold State.placeEvent
  split_ifs <;> exact ⟨rfl, rfl, rfl⟩

/-- A placed encoding is what the next stimulus is read as, in an idle state. -/
theorem placeEncoding_delivers {nbits w : Nat} {e : Encoding} (h : tableEncoding nbits w = some e) (s : State) :
    ∃ st, (s.placeEncoding e).inbox = st :: s.inbox ∧ encodingOf st (s.placeEncoding e) = some e ∧
      (s.placeEncoding e).inflight = none ∧ (s.placeEncoding e).params = s.params := by
  rcases tableEncoding_cases h with ⟨sel, rfl⟩ | ⟨v, rfl⟩ | ⟨v, rfl⟩
  · exact ⟨.read, rfl, rfl, rfl, rfl⟩
  · exact ⟨.write v, rfl, rfl, rfl, rfl⟩
  · obtain ⟨hin, hfl, hp⟩ := placeEvent_delivers v s
    exact ⟨.word v, hin, rfl, hfl, hp⟩

/-- Settles O9: the placed encoding is read back by the atomic step. -/
theorem placedWordRunsNext : Obligations.PlacedWordRunsNext := by
  intro s nbits w i hp hi
  unfold decodeTableWord at hi
  cases htab : tableEncoding nbits w with
  | none => rw [htab] at hi; cases hi
  | some e =>
    have hplace : s.withFetchWord nbits w = s.placeEncoding e := by rw [State.withFetchWord, htab]
    have hd : decode e = .instr i := by
      rw [htab] at hi
      cases hdec : decode e <;> simp only [hdec] at hi <;> cases hi
      rfl
    obtain ⟨st, hin, he, hfl, hparams⟩ := placeEncoding_delivers htab s
    rw [hplace]
    exact step_atomic_of_event hin he hd ⟨by rw [hparams, hp], hfl⟩

end Sys2Proof.Machine
end

section
/-! Reset, startup and the scanner (spec/70_reset_and_hazards.md section 1, spec/40_scanner.md). -/

namespace Sys2Proof.Machine

/-! ### RESET, INIT, and the events that cannot come (R260, R262, R263) -/

theorem exec_reset (s : State) : exec .reset s = .next (hardReset s) := rfl

/-- Settles O10: `hardReset` takes the button channels and the phase from `State.reset`. -/
theorem resetLeavesStatedValues : Obligations.ResetLeavesStatedValues := by
  intro s
  refine ⟨hardReset s, exec_reset s, rfl, rfl, rfl, fun i => ?_, rfl⟩
  fin_cases i <;> rfl

/-- Settles O11: `hardReset` takes every register from `State.reset`, and the rest from the state before. -/
theorem resetLeavesDecidedValues : Obligations.ResetLeavesDecidedValues := by
  intro s
  refine ⟨hardReset s, exec_reset s, fun i => ?_, rfl, rfl, rfl, rfl, rfl, fun i => ?_, rfl, fun c => ?_, rfl, rfl,
    rfl, rfl, rfl, rfl, rfl, rfl, rfl, rfl, rfl, rfl⟩
  · fin_cases i <;> rfl
  · fin_cases i <;> rfl
  · fin_cases c <;> exact ⟨rfl, rfl, rfl, rfl⟩

theorem exec_init_of_not_enabled {s : State} (h : s.enabled = false) : exec .init s = .next (startUp s) := by
  rw [exec, execInit, h, if_neg Bool.false_ne_true]

theorem exec_init_of_enabled {s : State} (h : s.enabled = true) : exec .init s = .fault .alreadyInit := by
  rw [exec, execInit, if_pos h]

/-- Settles O12: INIT before it has been done is `startUp`. -/
theorem initStartsScanning : Obligations.InitStartsScanning := fun _ => exec_init_of_not_enabled

theorem busWrite_of_not_enabled {s : State} (h : s.enabled = false) (reg val : Byte) :
    busWrite reg val s = .fault .notEnabled := whenEnabled_of_not_enabled h _

theorem busRead_of_not_enabled {s : State} (h : s.enabled = false) (reg : Byte) :
    busRead reg s = .fault .notEnabled := whenEnabled_of_not_enabled h _

/-- A run-time event before INIT is not delivered (R263). -/
theorem exec_of_not_enabled {i : Instr} {s : State}
    (hi : Instr.kind i ∈ [Kind.receive, .request, .overflow, .conversion]) (h : s.enabled = false) :
    exec i s = .fault .notEnabled := by
  cases i
  case reset | init | btn | tick | debounce | integrate | setfreq | setduty | dispatch =>
    simp [Instr.kind] at hi
  case wfreq0 | wduty0 | wfreq1 | wduty1 | wfreq2 | wduty2 | wout | wign => exact busWrite_of_not_enabled h _ _
  case rana | rbtn | rfall | rrise | rzero => exact busRead_of_not_enabled h _
  all_goals
    rw [exec]
    exact whenEnabled_of_not_enabled h _

theorem exec_adcDone_of_busy {s : State} (he : s.enabled = true) (hb : s.adcBusy = true) (result : Nat) :
    exec (.adcDone result) s = .next (adcDone result s) := by
  rw [exec, execAdcDone, whenEnabled_of_enabled he, if_pos hb]

theorem exec_adcDone_of_not_busy {s : State} (he : s.enabled = true) (hb : s.adcBusy = false) (result : Nat) :
    exec (.adcDone result) s = .fault .noConversion := by
  rw [exec, execAdcDone, whenEnabled_of_enabled he, hb, if_neg Bool.false_ne_true]

/-- Settles O13: the run-time events are delivered while `enabled` is 1, ADC_DONE while `adc_busy` is 1, and INIT
while `enabled` is 0. -/
theorem undeliverableEventsHaveNoStep : Obligations.UndeliverableEventsHaveNoStep :=
  ⟨fun _ _ => exec_of_not_enabled, fun result _ he hb => exec_adcDone_of_not_busy he hb result,
    fun _ => exec_init_of_enabled⟩

/-! ### One conversion (R121 to R125) -/

theorem sampleOf_toNat (adcBits result : Nat) :
    (sampleOf adcBits result).toNat = result / 2 ^ (adcBits - 8) % 256 := by
  rw [sampleOf, BitVec.toNat_ofNat, Nat.shiftRight_eq_div_pow]

theorem adcDone_mux_toNat (result : Nat) (s : State) :
    (adcDone result s).mux.toNat = (s.mux.toNat + 1) % 16 := by
  rw [adcDone, BitVec.toNat_add]
  rfl

theorem adcDone_ana (result : Nat) (s : State) (i : Fin 8) :
    (adcDone result s).ana[i] =
      if s.mux.toNat = i.val then sampleOf s.params.adcBits result else s.ana[i] :=
  storeSample_get s.mux _ s.ana i

/-- Settles O14: `adcDone`, cell by cell. -/
theorem conversionStoresAndAdvances : Obligations.ConversionStoresAndAdvances := by
  intro result s he hb
  refine ⟨adcDone result s, exec_adcDone_of_busy he hb result, rfl, adcDone_mux_toNat result s, fun i => ?_⟩
  rw [adcDone_ana, apply_ite BitVec.toNat, sampleOf_toNat]

/-! ### A sweep of conversions (R127) -/

/-- A run whose first step is known. -/
theorem run_succ_of_next {M : Host.Core} {s t : M.State} (h : M.step s = .next t) (n : Nat) :
    M.run (n + 1) s = M.run n t := by
  rw [Host.Core.run, h]

/-- Conversions one after the other. -/
def convert (results : List Nat) (s : State) : State := results.foldl (fun t result => adcDone result t) s

theorem convert_cons (result : Nat) (results : List Nat) (s : State) :
    convert (result :: results) s = convert results (adcDone result s) := rfl

theorem convert_concat (results : List Nat) (result : Nat) (s : State) :
    convert (results ++ [result]) s = adcDone result (convert results s) :=
  List.foldl_concat _ _ _ _

@[simp] theorem convert_params (results : List Nat) (s : State) : (convert results s).params = s.params := by
  induction results generalizing s with
  | nil => rfl
  | cons result results ih => rw [convert_cons, ih, adcDone]

theorem convert_mux_toNat (results : List Nat) (s : State) :
    (convert results s).mux.toNat = (s.mux.toNat + results.length) % 16 := by
  induction results generalizing s with
  | nil => exact (Nat.mod_eq_of_lt s.mux.isLt).symm
  | cons result results ih =>
    rw [convert_cons, ih, adcDone_mux_toNat, List.length_cons]
    omega

/-- Atomic steps on completed conversions run them in order. -/
theorem run_conversions (results : List Nat) (s : State) (ha : s.Atomic) (he : s.enabled = true)
    (hb : s.adcBusy = true) (hin : s.inbox = results.map .adcDone) :
    Host.Core.run Sys2Proof.core results.length s = .next (convert results { s with inbox := [] }) := by
  induction results generalizing s with
  | nil =>
    have hs : ({ s with inbox := [] } : State) = s := by rw [← hin.trans List.map_nil]
    rw [hs]
    rfl
  | cons result results ih =>
    have hstep : step s = .next (adcDone result { s with inbox := results.map .adcDone }) := by
      rw [step_atomic_of_event hin rfl rfl ha]
      exact exec_adcDone_of_busy (s := { s with inbox := results.map .adcDone }) he hb result
    exact (run_succ_of_next (M := Sys2Proof.core) hstep results.length).trans
      (ih _ ⟨ha.preempt, ha.inflight⟩ he hb rfl)

/-- At most sixteen conversions reach each input once: the channel whose turn has come holds its own sample,
any other what it held. -/
theorem convert_ana (results : List Nat) (s : State) (i : Fin 8) (hlen : results.length ≤ 16) :
    (convert results s).ana[i] =
      if (i.val + 16 - s.mux.toNat) % 16 < results.length then
        sampleOf s.params.adcBits (results.getD ((i.val + 16 - s.mux.toNat) % 16) 0)
      else s.ana[i] := by
  have hmux := s.mux.isLt
  have hi := i.isLt
  induction results using List.reverseRecOn with
  | nil => rw [if_neg (by simp)]; rfl
  | append_singleton results result ih =>
    rw [List.length_append, List.length_singleton] at hlen ⊢
    rw [convert_concat, adcDone_ana, convert_mux_toNat, convert_params, ih (by omega)]
    by_cases hturn : (s.mux.toNat + results.length) % 16 = i.val
    · have hlast : (i.val + 16 - s.mux.toNat) % 16 = results.length := by omega
      rw [if_pos hturn, if_pos (by omega), hlast]
      simp
    · rw [if_neg hturn]
      by_cases hdone : (i.val + 16 - s.mux.toNat) % 16 < results.length
      · rw [if_pos hdone, if_pos (by omega), List.getD_append _ _ _ _ hdone]
      · rw [if_neg hdone, if_neg (by omega)]

/-- Settles O15: the run is the conversions in order, and sixteen of them come round to the same selector. -/
theorem sweepStoresEachChannelOnce : Obligations.SweepStoresEachChannelOnce := by
  intro s results ha he hb hlen hin
  have hmux := s.mux.isLt
  refine ⟨convert results { s with inbox := [] }, ?_, ?_, fun i => ?_⟩
  · rw [← hlen]
    exact run_conversions results s ha he hb hin
  · apply BitVec.eq_of_toNat_eq
    rw [convert_mux_toNat, hlen]
    simp only
    omega
  · rw [convert_ana _ _ _ (by omega), if_pos (by omega), sampleOf_toNat]

end Sys2Proof.Machine
end

section
/-! The tick driver and the debouncer (spec/41_tick_debouncer.md). -/

namespace Sys2Proof.Machine

/-! ### One channel's tick, branch by branch (R140) -/

section
variable {b : ButtonView} (ticks : Byte)

theorem ButtonView.tick_of_counting (h : b.cnt ≠ 0) (raw : Bool) :
    b.tick ticks raw = { b with cnt := b.cnt - 1 } := if_pos h

theorem ButtonView.tick_of_same (h : b.cnt = 0) {raw : Bool} (hraw : raw = b.level) : b.tick ticks raw = b := by
  rw [ButtonView.tick, if_neg (not_not.2 h), if_pos hraw]

theorem ButtonView.tick_of_change (h : b.cnt = 0) {raw : Bool} (hraw : raw ≠ b.level) :
    b.tick ticks raw = { level := raw, fall := !raw || b.fall, rise := raw || b.rise, cnt := ticks } := by
  rw [ButtonView.tick, if_neg (not_not.2 h), if_neg hraw]

end

theorem toNat_pred {c : Byte} (h : c ≠ 0) : (c - 1).toNat = c.toNat - 1 := by
  have hpos : c.toNat ≠ 0 := fun h0 => h (BitVec.eq_of_toNat_eq h0)
  exact BitVec.toNat_sub_of_le (by rw [BitVec.le_def]; exact Nat.one_le_iff_ne_zero.2 hpos)

/-- While its countdown runs a channel does nothing but count, whatever the levels are (R147). -/
theorem ButtonView.ticks_of_window (ticks : Byte) (raws : List Bool) (b : ButtonView)
    (h : raws.length ≤ b.cnt.toNat) :
    raws.foldl (fun b raw => b.tick ticks raw) b =
      { b with cnt := BitVec.ofNat 8 (b.cnt.toNat - raws.length) } := by
  induction raws generalizing b with
  | nil => simp
  | cons raw raws ih =>
    rw [List.length_cons] at h
    have hc : b.cnt ≠ 0 := by
      intro h0
      simp [h0] at h
    rw [List.foldl_cons, ButtonView.tick_of_counting ticks hc, ih _ (by rw [toNat_pred hc]; omega), toNat_pred hc,
      List.length_cons, Nat.add_comm raws.length 1, Nat.sub_sub]

/-! ### DEBOUNCE of all channels -/

theorem button_eq_iff {s : State} {i : Fin 8} {b : ButtonView} :
    s.button i = b ↔
      bitOf s.btnState i = b.level ∧ bitOf s.btnFall i = b.fall ∧ bitOf s.btnRise i = b.rise ∧
      s.btnCnt[i] = b.cnt := by
  cases b
  simp only [State.button, ButtonView.mk.injEq]

theorem exec_tick (s : State) : exec .tick s = .next (tick s) := rfl

theorem exec_debounce (s : State) : exec .debounce s = .next (debounce s) := rfl

theorem exec_integrate (s : State) : exec .integrate s = .next (integrate s) := rfl

/-- Settles O19, channel by channel: `debounce_button` in the three branches of R140. -/
theorem debounceStepsEachChannel : Obligations.DebounceStepsEachChannel := by
  intro s
  refine ⟨debounce s, exec_debounce s, ?_, fun i => ?_⟩
  · obtain ⟨l, f, r, c, h⟩ := debounce_frame s
    rw [h]
  · have hb := debounce_button s i
    split_ifs with hcnt hraw
    · rw [ButtonView.tick_of_counting _ hcnt] at hb
      obtain ⟨hl, hf, hr, hc⟩ := button_eq_iff.1 hb
      have hpos : s.btnCnt[i].toNat ≠ 0 := fun h0 => hcnt (BitVec.eq_of_toNat_eq h0)
      have hpred : (debounce s).btnCnt[i] = s.btnCnt[i] - 1 := hc
      refine ⟨?_, hl, hf, hr⟩
      rw [hpred, toNat_pred hcnt]
      exact Nat.sub_add_cancel (Nat.pos_of_ne_zero hpos)
    · rw [ButtonView.tick_of_same _ (not_not.1 hcnt) hraw] at hb
      obtain ⟨hl, hf, hr, hc⟩ := button_eq_iff.1 hb
      exact ⟨hc.trans (not_not.1 hcnt), hl, hf, hr⟩
    · rw [ButtonView.tick_of_change _ (not_not.1 hcnt) hraw] at hb
      obtain ⟨hl, hf, hr, hc⟩ := button_eq_iff.1 hb
      exact ⟨hc, hl, hf.trans (Bool.or_comm _ _), hr.trans (Bool.or_comm _ _)⟩

/-- Settles O20: a channel after DEBOUNCE is a function of the same channel before it (`debounce_button`). -/
theorem buttonChannelsAreIndependent : Obligations.ButtonChannelsAreIndependent := by
  intro s s' t t' i ht ht' hticks hraw hlevel hfall hrise hcnt
  rw [exec_debounce] at ht ht'
  obtain rfl := Host.Outcome.next.inj ht
  obtain rfl := Host.Outcome.next.inj ht'
  have hbefore : s.button i = s'.button i := button_eq_iff.2 ⟨hlevel, hfall, hrise, hcnt⟩
  have hafter : (debounce s).button i = (debounce s').button i := by
    rw [debounce_button, debounce_button, hbefore, hticks, hraw]
  exact button_eq_iff.1 hafter

/-- DEBOUNCE commutes with an update that no channel sees. -/
theorem debounce_comm {f : State → State} (hraw : ∀ s, (f s).btnRaw = s.btnRaw)
    (hchannel : ∀ raw i s, debounceChannel raw i (f s) = f (debounceChannel raw i s)) (s : State) :
    debounce (f s) = f (debounce s) := by
  rw [debounce, hraw]
  exact List.foldl_hom f fun t i => hchannel s.btnRaw i t

theorem debounce_putInbox (l : List Stimulus) (s : State) :
    debounce (s.putInbox l) = (debounce s).putInbox l := by
  refine debounce_comm (f := fun t => { t with inbox := l }) (fun _ => rfl) (fun raw i t => ?_) s
  unfold debounceChannel
  split_ifs <;> rfl

theorem debounce_pwmLevel_comm (v : Vector Byte 3) (s : State) :
    debounce { s with pwmLevel := v } = { debounce s with pwmLevel := v } := by
  refine debounce_comm (f := fun t => { t with pwmLevel := v }) (fun _ => rfl) (fun raw i t => ?_) s
  unfold debounceChannel
  split_ifs <;> rfl

/-- Settles O18: DEBOUNCE neither reads nor writes the levels, and INTEGRATE nothing else. -/
theorem tickIsDebounceThenRamp : Obligations.TickIsDebounceThenRamp := by
  intro s
  refine ⟨debounce s, integrate s, tick s, exec_tick s, exec_debounce s, exec_integrate (debounce s),
    exec_integrate s, ?_⟩
  have hlevels : (integrate s).pwmLevel = (integrate (debounce s)).pwmLevel := by
    ext c hc : 1
    exact (integrate_pwmLevel s ⟨c, hc⟩).trans (tick_pwmLevel s ⟨c, hc⟩).symm
  have hramp (u : State) : integrate u = { u with pwmLevel := (integrate u).pwmLevel } := rfl
  have hcomm : debounce (integrate s) = tick s :=
    calc debounce (integrate s)
        = debounce { s with pwmLevel := (integrate s).pwmLevel } := by rw [← hramp s]
      _ = { debounce s with pwmLevel := (integrate (debounce s)).pwmLevel } := by
          rw [debounce_pwmLevel_comm, hlevels]
      _ = tick s := (hramp (debounce s)).symm
  rw [exec_debounce, hcomm]

/-! ### Ticks under given levels (R147, R148) -/

@[simp] theorem tick_params (s : State) : (tick s).params = s.params := by
  obtain ⟨l, f, r, c, v, h⟩ := tick_frame s
  rw [h]

theorem ticksUnder_cons (raw : Byte) (raws : List Byte) (s : State) :
    ticksUnder (raw :: raws) s = ticksUnder raws (tick (s.putBtnRaw raw)) := by
  rw [ticksUnder, List.foldl_cons, ← ticksUnder]

theorem ticksUnder_button (raws : List Byte) (s : State) (i : Fin 8) :
    (ticksUnder raws s).button i =
      (raws.map (bitOf · i)).foldl (fun b raw => b.tick s.params.debounceTicks raw) (s.button i) := by
  induction raws generalizing s with
  | nil => rfl
  | cons raw raws ih =>
    rw [ticksUnder_cons, ih, tick_params, tick_button, List.map_cons, List.foldl_cons]
    rfl

/-- The channel inside the window an accepted change opens. -/
theorem ticksUnder_button_of_accepted {s : State} {i : Fin 8} {first : Byte} {window : List Byte}
    (hcnt : s.btnCnt[i] = 0) (hfirst : bitOf first i ≠ bitOf s.btnState i)
    (hlen : window.length ≤ s.params.debounceTicks.toNat) :
    (ticksUnder (first :: window) s).button i =
      { level := bitOf first i
        fall := !bitOf first i || bitOf s.btnFall i
        rise := bitOf first i || bitOf s.btnRise i
        cnt := BitVec.ofNat 8 (s.params.debounceTicks.toNat - window.length) } := by
  have hopen : (s.button i).tick s.params.debounceTicks (bitOf first i) = _ :=
    ButtonView.tick_of_change _ hcnt hfirst
  rw [ticksUnder_button, List.map_cons, List.foldl_cons, hopen,
    ButtonView.ticks_of_window _ _ _ (by simpa using hlen), List.length_map]
  rfl

/-- Settles O21: the window by `ticksUnder_button_of_accepted`; at its end the countdown is 0, and a level that
differs is accepted as the first was. -/
theorem acceptedChangeOpensWindow : Obligations.AcceptedChangeOpensWindow := by
  intro s i first last window hcnt hfirst hlen hlast
  refine ⟨fun k hk => ?_, ?_⟩
  · have htake : (window.take k).length = k := List.length_take_of_le hk
    have hb := ticksUnder_button_of_accepted (window := window.take k) hcnt hfirst (by omega)
    obtain ⟨hl, hf, hr, hc⟩ := button_eq_iff.1 hb
    refine ⟨hl, ?_, hr.trans (Bool.or_comm _ _), hf.trans (Bool.or_comm _ _)⟩
    have hlt := s.params.debounceTicks.isLt
    rw [hc, htake, ← hlen, BitVec.toNat_ofNat, Nat.mod_eq_of_lt (by omega)]
  · have hb := ticksUnder_button_of_accepted (window := window) hcnt hfirst hlen.le
    rw [hlen, Nat.sub_self] at hb
    have hend : (ticksUnder (first :: window ++ [last]) s).button i =
        ((ticksUnder (first :: window) s).button i).tick s.params.debounceTicks (bitOf last i) := by
      rw [ticksUnder_button, List.map_append, List.foldl_append, ← ticksUnder_button]
      rfl
    rw [hb, ButtonView.tick_of_change _ rfl hlast] at hend
    obtain ⟨hl, hf, hr, hc⟩ := button_eq_iff.1 hend
    have hnot : bitOf last i = !bitOf first i := Bool.eq_not.2 hlast
    exact ⟨hl, hc, hr.trans (by simp [hnot, ← Bool.or_assoc]), hf.trans (by simp [hnot, ← Bool.or_assoc])⟩

/-! ### The overflow (R135, R136) -/

theorem exec_tov_of_enabled {s : State} (he : s.enabled = true) : exec .tov s = .next (tov s) := by
  rw [exec, execTov, whenEnabled_of_enabled he]

theorem isTick_toggled_iff (s : State) :
    isTick (s.putTickDiv (!s.tickDiv)) = true ↔ (!s.tickDiv) = s.params.tickActive := beq_iff_eq

theorem tov_of_active {s : State} (h : (!s.tickDiv) = s.params.tickActive) :
    tov s = tick (s.putTickDiv (!s.tickDiv)) := by
  rw [tov, if_pos ((isTick_toggled_iff s).2 h)]

theorem tov_of_not_active {s : State} (h : (!s.tickDiv) ≠ s.params.tickActive) :
    tov s = s.putTickDiv (!s.tickDiv) := by
  rw [tov, if_neg (mt (isTick_toggled_iff s).1 h)]

/-- Settles O16: the two halves of the divided overflow. -/
theorem overflowTogglesThenTicks : Obligations.OverflowTogglesThenTicks := by
  intro s he
  rw [exec_tov_of_enabled he]
  split
  next h => exact congrArg Host.Outcome.next (tov_of_active h)
  next h => exact congrArg Host.Outcome.next (tov_of_not_active h)

@[simp] theorem tick_tickDiv (s : State) : (tick s).tickDiv = s.tickDiv := by
  obtain ⟨l, f, r, c, v, h⟩ := tick_frame s
  rw [h]

@[simp] theorem putTickDiv_putTickDiv (s : State) (d d' : Bool) :
    (s.putTickDiv d).putTickDiv d' = s.putTickDiv d' := rfl

theorem putTickDiv_of_eq {s : State} {d : Bool} (h : s.tickDiv = d) : s.putTickDiv d = s := by
  rw [← h]
  rfl

/-- Two overflows are one tick, whichever of them runs it (R136). -/
theorem tov_tov (s : State) : tov (tov s) = tick s := by
  have hback : (tick s).putTickDiv s.tickDiv = tick s := putTickDiv_of_eq (tick_tickDiv s)
  by_cases h : (!s.tickDiv) = s.params.tickActive
  · rw [tov_of_active h, tick_putTickDiv, tov_of_not_active (by simp [← h])]
    simpa using hback
  · have hactive : s.tickDiv = s.params.tickActive := by simpa using h
    rw [tov_of_not_active h, tov_of_active (by simp [hactive]), tick_putTickDiv, tick_putTickDiv]
    simpa using hback

@[simp] theorem putInbox_putInbox (s : State) (l l' : List Stimulus) :
    (s.putInbox l).putInbox l' = s.putInbox l' := rfl

theorem putInbox_of_eq {s : State} {l : List Stimulus} (h : s.inbox = l) : s.putInbox l = s := by
  rw [← h]
  rfl

theorem integrate_putInbox (l : List Stimulus) (s : State) :
    integrate (s.putInbox l) = (integrate s).putInbox l := rfl

theorem tick_putInbox (l : List Stimulus) (s : State) : tick (s.putInbox l) = (tick s).putInbox l := by
  rw [tick, tick, debounce_putInbox, integrate_putInbox]

theorem putInbox_putTickDiv_comm (l : List Stimulus) (d : Bool) (s : State) :
    (s.putInbox l).putTickDiv d = (s.putTickDiv d).putInbox l := rfl

theorem tov_putInbox (l : List Stimulus) (s : State) : tov (s.putInbox l) = (tov s).putInbox l := by
  by_cases h : (!s.tickDiv) = s.params.tickActive
  · rw [tov_of_active h, tov_of_active (s := s.putInbox l) h, putInbox_putTickDiv_comm, tick_putInbox,
      State.putInbox_tickDiv]
  · rw [tov_of_not_active h, tov_of_not_active (s := s.putInbox l) h, putInbox_putTickDiv_comm,
      State.putInbox_tickDiv]

/-- The registers an overflow may write. -/
theorem tov_frame (s : State) :
    ∃ d l f r c v, tov s =
      { s with tickDiv := d, btnState := l, btnFall := f, btnRise := r, btnCnt := c, pwmLevel := v } := by
  by_cases h : (!s.tickDiv) = s.params.tickActive
  · obtain ⟨l, f, r, c, v, ht⟩ := tick_frame (s.putTickDiv (!s.tickDiv))
    exact ⟨_, l, f, r, c, v, (tov_of_active h).trans ht⟩
  · exact ⟨_, _, _, _, _, _, tov_of_not_active h⟩

/-! ### Runs of overflows (R110, R136) -/

/-- The state in which an overflow is run as a step. -/
structure State.Running (s : State) : Prop extends s.Atomic where
  enabled : s.enabled = true

theorem State.Running.putInbox {s : State} (h : s.Running) (l : List Stimulus) : (s.putInbox l).Running :=
  ⟨⟨h.preempt, h.inflight⟩, h.enabled⟩

theorem State.Running.putBtnRaw {s : State} (h : s.Running) (raw : Byte) : (s.putBtnRaw raw).Running :=
  ⟨⟨h.preempt, h.inflight⟩, h.enabled⟩

theorem State.Running.tov {s : State} (h : s.Running) : (tov s).Running := by
  obtain ⟨d, l, f, r, c, v, ht⟩ := tov_frame s
  rw [ht]
  exact ⟨⟨h.preempt, h.inflight⟩, h.enabled⟩

theorem State.Running.tick {s : State} (h : s.Running) : (tick s).Running := by
  rw [← tov_tov]
  exact h.tov.tov

theorem step_of_tov {s : State} {rest : List Stimulus} (h : s.Running) (hin : s.inbox = .word 0x2000 :: rest) :
    step s = .next ((tov s).putInbox rest) := by
  have hstep : step s = exec .tov (s.putInbox rest) := step_atomic_of_event hin rfl rfl h.toAtomic
  rw [hstep, exec_tov_of_enabled (h.putInbox rest).enabled, tov_putInbox]

/-- Two overflows run as two steps are one tick. -/
theorem run_two_overflows {s : State} {rest : List Stimulus} (h : s.Running)
    (hin : s.inbox = .word 0x2000 :: .word 0x2000 :: rest) (n : Nat) :
    Host.Core.run Sys2Proof.core (n + 2) s = Host.Core.run Sys2Proof.core n ((tick s).putInbox rest) := by
  have hsecond : step ((tov s).putInbox (.word 0x2000 :: rest)) = .next ((tick s).putInbox rest) := by
    rw [step_of_tov (h.tov.putInbox _) rfl, tov_putInbox, tov_tov, putInbox_putInbox]
  exact (run_succ_of_next (M := Sys2Proof.core) (step_of_tov h hin) (n + 1)).trans
    (run_succ_of_next (M := Sys2Proof.core) hsecond n)

theorem run_overflows (n : Nat) (s : State) (h : s.Running)
    (hin : s.inbox = List.replicate (2 * n) (.word 0x2000)) :
    Host.Core.run Sys2Proof.core (2 * n) s = .next (tick^[n] (s.putInbox [])) := by
  induction n generalizing s with
  | zero => exact congrArg Host.Outcome.next (putInbox_of_eq hin).symm
  | succ n ih =>
    have hrest := ih ((tick s).putInbox (List.replicate (2 * n) (.word 0x2000))) (h.tick.putInbox _)
      (State.putInbox_inbox _ _)
    rw [putInbox_putInbox] at hrest
    rw [Function.iterate_succ_apply, tick_putInbox]
    exact (run_two_overflows h hin (2 * n)).trans hrest

/-- Settles O17: by `run_two_overflows`, tick by tick. -/
theorem twoOverflowsRunOneTick : Obligations.TwoOverflowsRunOneTick :=
  fun n s ha he hin => run_overflows n s ⟨ha, he⟩ hin

/-! ### Levels and overflows (R109, R110) -/

/-- Settles O23: BTN is one update of the port level. -/
theorem btnSetsThePortLevelOnly : Obligations.BtnSetsThePortLevelOnly := fun _ _ => rfl

theorem decodeEv_of_kind_btn {w : Word} (h : kindOf w = 0x4) : decodeEv w = .instr (.btn (loByte w)) := by
  simp [decodeEv, h]

/-- The word that delivers a level. -/
theorem decodeEv_btn (raw : Byte) : decodeEv (0x40#8 ++ raw) = .instr (.btn raw) := by
  have hkind : kindOf (wordOf 0x40 raw) = 0x4 := by
    apply BitVec.eq_of_toNat_eq
    have := raw.isLt
    rw [kindOf_toNat, wordOf, BitVec.toNat_append, ← Nat.shiftLeft_add_eq_or_of_lt raw.isLt]
    simp
    omega
  exact (decodeEv_of_kind_btn hkind).trans (by rw [loByte_wordOf])

theorem step_of_btn {s : State} {raw : Byte} {rest : List Stimulus} (ha : s.Atomic)
    (hin : s.inbox = .word (0x40#8 ++ raw) :: rest) :
    step s = .next ((s.putBtnRaw raw).putInbox rest) :=
  step_atomic_of_event hin rfl (decodeEv_btn raw) ha

/-- A level and two overflows run as three steps are one tick under that level. -/
theorem run_level_and_overflows {s : State} {raw : Byte} {rest : List Stimulus} (h : s.Running)
    (hin : s.inbox = .word (0x40#8 ++ raw) :: .word 0x2000 :: .word 0x2000 :: rest) (n : Nat) :
    Host.Core.run Sys2Proof.core (n + 3) s =
      Host.Core.run Sys2Proof.core n ((tick (s.putBtnRaw raw)).putInbox rest) := by
  have htick := run_two_overflows ((h.putBtnRaw raw).putInbox (.word 0x2000 :: .word 0x2000 :: rest)) rfl n
  rw [tick_putInbox, putInbox_putInbox] at htick
  exact (run_succ_of_next (M := Sys2Proof.core) (step_of_btn h.toAtomic hin) (n + 2)).trans htick

theorem ticksUnder_putInbox (raws : List Byte) (l : List Stimulus) (s : State) :
    ticksUnder raws (s.putInbox l) = (ticksUnder raws s).putInbox l := by
  induction raws generalizing s with
  | nil => rfl
  | cons raw raws ih => rw [ticksUnder_cons, ticksUnder_cons, ← ih, ← tick_putInbox]; rfl

/-- Settles O22: by `run_level_and_overflows`, level by level. -/
theorem levelAndTwoOverflowsAreOneTick : Obligations.LevelAndTwoOverflowsAreOneTick := by
  intro s raws ha he hin
  have h : s.Running := ⟨ha, he⟩
  clear ha he
  change _ = Host.Outcome.next ((ticksUnder raws s).putInbox [])
  induction raws generalizing s with
  | nil => exact congrArg Host.Outcome.next (putInbox_of_eq hin).symm
  | cons raw raws ih =>
    have hrest := ih ((tick (s.putBtnRaw raw)).putInbox _) (State.putInbox_inbox _ _)
      ((h.putBtnRaw raw).tick.putInbox _)
    rw [ticksUnder_putInbox, putInbox_putInbox, ← ticksUnder_cons] at hrest
    exact (run_level_and_overflows h hin (3 * raws.length)).trans hrest

end Sys2Proof.Machine
end

section
/-! SETFREQ, SETDUTY and the ramp over many ticks (spec/42_pwm.md, spec/20_memory.md section 3). -/

namespace Sys2Proof.Machine

/-! ### The ramp over many ticks (R173) -/

@[simp] theorem tick_pwmTarget (s : State) : (tick s).pwmTarget = s.pwmTarget := by
  obtain ⟨l, f, r, c, v, h⟩ := tick_frame s
  rw [h]

theorem iterate_tick_pwmTarget (n : Nat) (s : State) : (tick^[n] s).pwmTarget = s.pwmTarget := by
  induction n with
  | zero => rfl
  | succ n ih => rw [Function.iterate_succ_apply', tick_pwmTarget, ih]

theorem tick_pwmLevel_toNat (s : State) (c : Fin 3) :
    (tick s).pwmLevel[c].toNat =
      if s.pwmLevel[c].toNat < s.pwmTarget[c].toNat then s.pwmLevel[c].toNat + 1
      else if s.pwmTarget[c].toNat < s.pwmLevel[c].toNat then s.pwmLevel[c].toNat - 1
      else s.pwmLevel[c].toNat := by
  rw [tick_pwmLevel, rampLevel_toNat]

theorem iterate_tick_pwmLevel_toNat (n : Nat) (s : State) (c : Fin 3) :
    (tick^[n] s).pwmLevel[c].toNat =
      if s.pwmLevel[c].toNat ≤ s.pwmTarget[c].toNat then min (s.pwmLevel[c].toNat + n) s.pwmTarget[c].toNat
      else max (s.pwmLevel[c].toNat - n) s.pwmTarget[c].toNat := by
  induction n with
  | zero =>
    rw [Function.iterate_zero_apply]
    split <;> omega
  | succ n ih =>
    rw [Function.iterate_succ_apply', tick_pwmLevel_toNat, iterate_tick_pwmTarget, ih]
    split_ifs <;> omega

/-- Settles O26: the targets stay, and each tick is one ramp step. -/
theorem rampConvergesToTarget : Obligations.RampConvergesToTarget :=
  fun s n c => ⟨iterate_tick_pwmTarget n s, iterate_tick_pwmLevel_toNat n s c⟩

/-! ### SETDUTY -/

/-- Settles O30: SETDUTY's own test of the channel. -/
theorem setdutyRefusesMissingChannel : Obligations.SetdutyRefusesMissingChannel :=
  fun _ _ _ h => if_neg (Nat.not_lt.2 h)

theorem setDuty_setDuty (ch : Nat) (duty : Byte) (s : State) :
    setDuty ch duty (setDuty ch duty s) = setDuty ch duty s := by
  by_cases h : ch < 3
  · rw [setDuty, dif_pos h, setDuty, dif_pos h, State.putPwmTarget, State.putPwmTarget, Vector.set_set]
  · rw [setDuty, dif_neg h]

/-! ### SETFREQ (R161 to R166) -/

/-- The hardware code of an accepted code of the shared prescaler (R163). -/
def hardwareCode (code : Byte) : BitVec 3 :=
  BitVec.ofNat 3 (if code.toNat ≤ 2 then code.toNat else if code.toNat = 4 then 3 else code.toNat - 2)

theorem freqRejected_shared_iff {ch : Nat} (h0 : 0 < ch) (h3 : ch < 3) (code : Byte) :
    freqRejected ch code = true ↔ code ∉ [0, 1, 2, 4, 6, 7] := by
  rw [freqRejected_iff]
  simp [← BitVec.toNat_inj]
  omega

theorem remap_of_shared : ∀ code ∈ ([0, 1, 2, 4, 6, 7] : List Byte), remap code = some (hardwareCode code) := by
  decide

/-- What SETFREQ can do: reject, write channel 0, or write the shared group. -/
theorem setFreq_cases (ch : Nat) (code : Byte) :
    (freqRejected ch code = true ∧ ∀ s, setFreq ch code s = s) ∨
    (ch = 0 ∧ code.toNat ≤ 7 ∧ ∀ s, setFreq ch code s = setFreqA code s) ∨
    (0 < ch ∧ ch < 3 ∧ code ∈ ([0, 1, 2, 4, 6, 7] : List Byte) ∧
      ∀ s, setFreq ch code s = setFreqB code (hardwareCode code) s) := by
  by_cases hrej : freqRejected ch code = true
  · exact .inl ⟨hrej, setFreq_of_rejected hrej⟩
  · right
    have haccepted := mt (freqRejected_iff ch code).2 hrej
    by_cases h0 : ch = 0
    · exact .inl ⟨h0, by omega, fun s => by rw [setFreq, if_neg hrej, if_pos h0]⟩
    · have hpos := Nat.pos_of_ne_zero h0
      have h3 : ch < 3 := by omega
      have hcode : code ∈ ([0, 1, 2, 4, 6, 7] : List Byte) := by
        rwa [freqRejected_shared_iff hpos h3, not_not] at hrej
      refine .inr ⟨hpos, h3, hcode, fun s => ?_⟩
      rw [setFreq, if_neg hrej, if_neg h0, remap_of_shared code hcode]

/-- The accepted SETFREQ of the shared group, in the spec's terms (R165). -/
theorem setFreqB_hardwareCode (code : Byte) (s : State) :
    setFreqB code (hardwareCode code) s =
      { s with pwmFreq := (s.pwmFreq.set 1 (code.setWidth 3)).set 2 (code.setWidth 3)
               prescB := BitVec.ofNat 3
                 (if code.toNat ≤ 2 then code.toNat else if code.toNat = 4 then 3 else code.toNat - 2)
               ocEn := (s.ocEn.set 1 (decide (code ≠ 0))).set 2 (decide (code ≠ 0)) } := by
  rw [setFreqB, logicalCode_eq_setWidth, ocEnable_eq_decide, hardwareCode]

/-- Settles O27, by the cases of `setFreq_cases`. -/
theorem setfreqStoresOrRejects : Obligations.SetfreqStoresOrRejects := by
  intro ch code s
  have hiff : freqRejected ch code = true ↔ 3 ≤ ch ∨ 7 < code.toNat ∨ (0 < ch ∧ (code = 3 ∨ code = 5)) :=
    freqRejected_iff ch code
  rw [exec_setfreq]
  rcases setFreq_cases ch code with ⟨hrej, h⟩ | ⟨rfl, hcode, -⟩ | ⟨hpos, h3, hcode, h⟩
  · rw [h, if_pos (hiff.1 hrej)]
  · rw [if_neg (by omega), if_pos rfl, setFreq_zero, if_pos hcode]
  · have haccepted : ¬ freqRejected ch code = true := by
      rw [freqRejected_shared_iff hpos h3, not_not]
      exact hcode
    rw [if_neg (mt hiff.2 haccepted), if_neg hpos.ne', h, setFreqB_hardwareCode]

theorem setFreqA_setFreqA (code : Byte) (s : State) : setFreqA code (setFreqA code s) = setFreqA code s := by
  simp only [setFreqA, Vector.set_set]

/-- Two cells written twice with one value. -/
theorem vector_set_pair_set_pair {α : Type} (v : Vector α 3) (x : α) :
    (((v.set 1 x).set 2 x).set 1 x).set 2 x = (v.set 1 x).set 2 x := by
  rw [Vector.set_comm (i := 2) (j := 1) x x (by decide), Vector.set_set, Vector.set_set]

theorem setFreqB_setFreqB (code : Byte) (hw : BitVec 3) (s : State) :
    setFreqB code hw (setFreqB code hw s) = setFreqB code hw s := by
  simp only [setFreqB, vector_set_pair_set_pair]

theorem setFreq_setFreq (ch : Nat) (code : Byte) (s : State) :
    setFreq ch code (setFreq ch code s) = setFreq ch code s := by
  rcases setFreq_cases ch code with ⟨-, h⟩ | ⟨-, -, h⟩ | ⟨-, -, -, h⟩
  · rw [h]
  · rw [h, h, setFreqA_setFreqA]
  · rw [h, h, setFreqB_setFreqB]

/-! ### DISPATCH -/

/-- What DISPATCH to an address does in every state (R65): SETFREQ or SETDUTY of one channel, the output port,
or nothing. -/
theorem memWrite_forms (reg v : Byte) :
    (∃ c : Fin 3, reg = 0x40 + 2 * BitVec.ofNat 8 c ∧ ∀ s, memWrite reg v s = setFreq c v s) ∨
    (∃ c : Fin 3, reg = 0x41 + 2 * BitVec.ofNat 8 c ∧ ∀ s, memWrite reg v s = setDuty c v s) ∨
    (reg = 0x60 ∧ ∀ s, memWrite reg v s = s.putOutPort v) ∨
    (isWriteReg reg = false ∧ ∀ s, memWrite reg v s = s) := by
  cases h : isWriteReg reg
  case false =>
    have hne : ¬ isWriteReg reg = true := by rw [h]; decide
    refine .inr (.inr (.inr ⟨rfl, memWrite_of_not_writable (fun hpwm => hne ?_) (fun h60 => hne ?_) v⟩))
    · simp [isWriteReg, BitVec.le_def, hpwm]
    · simp [isWriteReg, h60]
  case true =>
    rcases (isWriteReg_iff reg).1 h with rfl | rfl | rfl | rfl | rfl | rfl | rfl
    · exact .inl ⟨0, rfl, memWrite_freqReg 0 v⟩
    · exact .inr (.inl ⟨0, rfl, memWrite_dutyReg 0 v⟩)
    · exact .inl ⟨1, rfl, memWrite_freqReg 1 v⟩
    · exact .inr (.inl ⟨1, rfl, memWrite_dutyReg 1 v⟩)
    · exact .inl ⟨2, rfl, memWrite_freqReg 2 v⟩
    · exact .inr (.inl ⟨2, rfl, memWrite_dutyReg 2 v⟩)
    · exact .inr (.inr (.inl ⟨rfl, memWrite_outReg v⟩))

theorem memWrite_memWrite (reg v : Byte) (s : State) : memWrite reg v (memWrite reg v s) = memWrite reg v s := by
  rcases memWrite_forms reg v with ⟨c, -, h⟩ | ⟨c, -, h⟩ | ⟨-, h⟩ | ⟨-, h⟩
  · rw [h, h, setFreq_setFreq]
  · rw [h, h, setDuty_setDuty]
  · rw [h, h, State.putOutPort, State.putOutPort]
  · rw [h, h]

/-- Settles O31: each of the three writes is idempotent. -/
theorem repeatedWriteChangesNothing : Obligations.RepeatedWriteChangesNothing := by
  refine ⟨fun reg val s t h => ?_, fun ch v s t h => ?_, fun ch v s t h => ?_⟩
  · rw [exec_dispatch] at h ⊢
    obtain rfl := Host.Outcome.next.inj h
    rw [memWrite_memWrite]
  · rw [exec_setfreq] at h ⊢
    obtain rfl := Host.Outcome.next.inj h
    rw [setFreq_setFreq]
  · by_cases hch : ch < 3
    · rw [exec_setduty_of_lt hch] at h ⊢
      obtain rfl := Host.Outcome.next.inj h
      rw [setDuty_setDuty]
    · rw [setdutyRefusesMissingChannel ch v s (Nat.le_of_not_lt hch)] at h
      cases h

/-- The transactions of 0x42 and 0x44 are SETFREQ of the shared group. -/
theorem memWrite_sharedReg {reg : Byte} (h : reg = 0x42 ∨ reg = 0x44) (val : Byte) (s : State) :
    memWrite reg val s =
      if val ∈ ([0, 1, 2, 4, 6, 7] : List Byte) then setFreqB val (hardwareCode val) s else s := by
  have hfreq : ∃ c : Fin 3, 0 < c.val ∧ memWrite reg val s = setFreq c val s := by
    rcases h with rfl | rfl
    · exact ⟨1, by decide, memWrite_freqReg 1 val s⟩
    · exact ⟨2, by decide, memWrite_freqReg 2 val s⟩
  obtain ⟨c, hpos, hc⟩ := hfreq
  rcases setFreq_cases c val with ⟨hrej, hset⟩ | ⟨h0, -⟩ | ⟨-, -, hval, hset⟩
  · rw [hc, hset, if_neg ((freqRejected_shared_iff hpos c.isLt val).1 hrej)]
  · exact absurd h0 hpos.ne'
  · rw [hc, hset, if_pos hval]

/-- Settles O35: the transactions dispatch to 0x42 and 0x44. -/
theorem sharedFreqWritesSetBothChannels : Obligations.SharedFreqWritesSetBothChannels := by
  intro val s he hp
  have hwrite (reg : Byte) (h : reg = 0x42 ∨ reg = 0x44) :
      busWrite reg val s = .next (if val ∈ ([0, 1, 2, 4, 6, 7] : List Byte) then
        setFreqB val (hardwareCode val) { s with sel := reg, pend := val }
        else { s with sel := reg, pend := val }) := by
    rw [busWrite_of_awaitReg he hp, memWrite_sharedReg h]
  simp only [setFreqB_hardwareCode] at hwrite
  exact ⟨hwrite 0x42 (.inl rfl), hwrite 0x44 (.inr rfl)⟩

end Sys2Proof.Machine
end

section
/-! The register protocol (spec/43_protocol.md, spec/30_encoding.md): write transactions as received bytes, reads as
the row `sel` selects, and what no row but a tick looks at. -/

namespace Sys2Proof.Machine

/-! ### Updates that DISPATCH does not see -/

/-- An update of fields that DISPATCH neither reads nor writes: it commutes with each of DISPATCH's writes. -/
structure DispatchFree (f : State → State) : Prop where
  freqA : ∀ code s, setFreqA code (f s) = f (setFreqA code s)
  freqB : ∀ code hw s, setFreqB code hw (f s) = f (setFreqB code hw s)
  target : ∀ c v s, (f s).putPwmTarget c v = f (s.putPwmTarget c v)
  out : ∀ v s, (f s).putOutPort v = f (s.putOutPort v)

theorem setFreq_comm {f : State → State} (hf : DispatchFree f) (ch : Nat) (code : Byte) (s : State) :
    setFreq ch code (f s) = f (setFreq ch code s) := by
  rcases setFreq_cases ch code with ⟨-, h⟩ | ⟨-, -, h⟩ | ⟨-, -, -, h⟩
  · rw [h, h]
  · rw [h, h, hf.freqA]
  · rw [h, h, hf.freqB]

theorem setDuty_comm {f : State → State} (hf : DispatchFree f) (ch : Nat) (duty : Byte) (s : State) :
    setDuty ch duty (f s) = f (setDuty ch duty s) := by
  by_cases h : ch < 3
  · rw [setDuty, dif_pos h, setDuty, dif_pos h, hf.target]
  · rw [setDuty, dif_neg h, setDuty, dif_neg h]

theorem memWrite_comm {f : State → State} (hf : DispatchFree f) (reg v : Byte) (s : State) :
    memWrite reg v (f s) = f (memWrite reg v s) := by
  rcases memWrite_forms reg v with ⟨c, -, h⟩ | ⟨c, -, h⟩ | ⟨-, h⟩ | ⟨-, h⟩
  · rw [h, h, setFreq_comm hf]
  · rw [h, h, setDuty_comm hf]
  · rw [h, h, hf.out]
  · rw [h, h]

theorem dispatchFree_putSel (v : Byte) : DispatchFree (State.putSel v) :=
  ⟨fun _ _ => rfl, fun _ _ _ => rfl, fun _ _ _ => rfl, fun _ _ => rfl⟩

theorem dispatchFree_putPend (v : Byte) : DispatchFree (State.putPend v) :=
  ⟨fun _ _ => rfl, fun _ _ _ => rfl, fun _ _ _ => rfl, fun _ _ => rfl⟩

theorem dispatchFree_putPhase (p : Phase) : DispatchFree (State.putPhase p) :=
  ⟨fun _ _ => rfl, fun _ _ _ => rfl, fun _ _ _ => rfl, fun _ _ => rfl⟩

theorem dispatchFree_putBtnRaw (raw : Byte) : DispatchFree (State.putBtnRaw raw) :=
  ⟨fun _ _ => rfl, fun _ _ _ => rfl, fun _ _ _ => rfl, fun _ _ => rfl⟩

@[simp] theorem memWrite_pend (reg v : Byte) (s : State) : (memWrite reg v s).pend = s.pend := by
  obtain ⟨f, t, a, b, e, o, h⟩ := memWrite_frame reg v s
  rw [h]

@[simp] theorem memWrite_phase (reg v : Byte) (s : State) : (memWrite reg v s).phase = s.phase := by
  obtain ⟨f, t, a, b, e, o, h⟩ := memWrite_frame reg v s
  rw [h]

@[simp] theorem rx_enabled (byte : Byte) (s : State) : (rx byte s).enabled = s.enabled := by
  obtain ⟨f, t, a, b, e, o, p, q, d, h⟩ := rx_frame byte s
  rw [h]

/-! ### Write transactions (R90, R214) -/

theorem putPhase_putPhase (s : State) (p p' : Phase) : (s.putPhase p).putPhase p' = s.putPhase p' := rfl

/-- Two bytes from AwaitReg are the DISPATCH of the pair. -/
theorem rx_rx_of_awaitReg {s : State} (h : s.phase = .awaitReg) (reg val : Byte) :
    rx val (rx reg s) = (memWrite reg val ((s.putSel reg).putPend val)).putPhase .awaitReg := by
  rw [rx_of_awaitReg h, rx_of_awaitData rfl]
  have hopen := memWrite_comm (dispatchFree_putPhase .awaitData) reg val ((s.putSel reg).putPend val)
  have hclosed := congrArg (State.putPhase .awaitReg) hopen
  rwa [putPhase_putPhase] at hclosed

/-- Two bytes with a select left open are the DISPATCH of the first to the old register, and a new select. -/
theorem rx_rx_of_awaitData {s : State} (h : s.phase = .awaitData) (reg val : Byte) :
    rx val (rx reg s) = memWrite s.sel reg ((s.putPend reg).putSel val) := by
  have hphase : (memWrite s.sel reg (s.putPend reg)).putPhase .awaitData = memWrite s.sel reg (s.putPend reg) := by
    rw [← memWrite_comm (dispatchFree_putPhase .awaitData), ← h]
    rfl
  rw [rx_of_awaitData h, rx_of_awaitReg rfl, memWrite_comm (dispatchFree_putSel val)]
  exact congrArg (State.putSel val) hphase

/-- A W2 word is the write transaction of its two bytes. -/
theorem exec_decodeW2 (reg val : Byte) (s : State) : exec (decodeW2 (wordOf reg val)) s = busWrite reg val s := by
  rcases decodeW2_wordOf_cases reg val with ⟨rfl, h⟩ | ⟨rfl, h⟩ | ⟨rfl, h⟩ | ⟨rfl, h⟩ | ⟨rfl, h⟩ | ⟨rfl, h⟩ |
    ⟨rfl, h⟩ | ⟨-, h⟩ <;> rw [h] <;> rfl

theorem busWrite_of_enabled {s : State} (he : s.enabled = true) (reg val : Byte) :
    busWrite reg val s = .next (rx val (rx reg s)) := by
  rw [busWrite, whenEnabled_of_enabled he]

/-- Settles O38: the transaction is two RX, whose form in each phase `rx_rx_of_awaitReg` and
`rx_rx_of_awaitData` give. -/
theorem writeTransactionIsTwoReceivedBytes : Obligations.WriteTransactionIsTwoReceivedBytes := by
  intro reg val s he
  refine ⟨rx reg s, rx val (rx reg s), exec_rx_of_enabled he reg, exec_rx_of_enabled (by rw [rx_enabled, he]) val,
    (exec_decodeW2 reg val s).trans (busWrite_of_enabled he reg val), fun hp => ?_, fun hp => ?_⟩
  · rw [rx_rx_of_awaitReg hp]
    exact ⟨rfl, memWrite_sel _ _ _, memWrite_pend _ _ _⟩
  · rw [rx_rx_of_awaitData hp]
    exact ⟨(memWrite_phase _ _ _).trans hp, memWrite_sel _ _ _, memWrite_pend _ _ _, exec_dispatch _ _ _⟩

/-! ### What the events do to the protocol registers (R211) -/

theorem exec_rx_next {b : Byte} {s t : State} (h : exec (.rx b) s = .next t) : t = rx b s := by
  rw [exec, execRx] at h
  exact (Host.Outcome.next.inj (whenEnabled_next h).2).symm

theorem exec_rq_next {s t : State} (h : exec .rq s = .next t) : t = rq s := by
  rw [exec, execRq] at h
  exact (Host.Outcome.next.inj (whenEnabled_next h).2).symm

theorem exec_tov_next {s t : State} (h : exec .tov s = .next t) : t = tov s := by
  rw [exec, execTov] at h
  exact (Host.Outcome.next.inj (whenEnabled_next h).2).symm

theorem exec_adcDone_next {r : Nat} {s t : State} (h : exec (.adcDone r) s = .next t) : t = adcDone r s := by
  rw [exec, execAdcDone] at h
  obtain ⟨-, hrun⟩ := whenEnabled_next h
  split at hrun
  · exact (Host.Outcome.next.inj hrun).symm
  · cases hrun

theorem exec_init_next {s t : State} (h : exec .init s = .next t) : t = startUp s := by
  rw [exec, execInit] at h
  split at h
  · cases h
  · exact (Host.Outcome.next.inj h).symm

/-- Settles O41, event by event. -/
theorem phaseTransitions : Obligations.PhaseTransitions := by
  intro s t
  refine ⟨fun b h => ?_, fun h => ?_, fun h => ?_, fun r h => ?_, fun h => ?_, fun h => ?_⟩
  · rw [exec_rx_next h]
    refine ⟨fun hp => ?_, fun hp => ?_⟩
    · rw [rx_of_awaitReg hp]
      exact ⟨rfl, rfl, rfl⟩
    · rw [rx_of_awaitData hp]
      exact ⟨rfl, memWrite_sel _ _ _, memWrite_pend _ _ _⟩
  · rw [exec_rq_next h, rq_eq]
    exact ⟨rfl, rfl, rfl⟩
  · obtain ⟨d, l, f, r, c, v, ht⟩ := tov_frame s
    rw [exec_tov_next h, ht]
    exact ⟨rfl, rfl, rfl⟩
  · rw [exec_adcDone_next h]
    exact ⟨rfl, rfl, rfl⟩
  · obtain rfl := Host.Outcome.next.inj h
    exact ⟨rfl, rfl, rfl⟩
  · rw [exec_init_next h]
    exact ⟨rfl, rfl, rfl⟩

/-! ### Reads (R92, R102, R213) -/

/-- A value of `sel` is the read of that address. -/
theorem exec_decodeR1 (sel : Byte) (s : State) : exec (decodeR1 sel) s = busRead sel s := by
  rcases decodeR1_cases sel with ⟨n, rfl, h⟩ | ⟨rfl, h⟩ | ⟨rfl, h⟩ | ⟨rfl, h⟩ | ⟨-, h⟩ <;> rw [h] <;> rfl

theorem busRead_of_not_selected {s : State} {reg : Byte} (he : s.enabled = true) (h : s.sel ≠ reg) :
    busRead reg s = .fault .rowNotSelected := by
  rw [busRead, whenEnabled_of_enabled he, if_neg h]

theorem exec_decodeB1_of_other_phase {s : State} (he : s.enabled = true) {p : Phase} (h : p ≠ s.phase) (b : Byte) :
    exec (decodeB1 p b) s = .fault .rowNotSelected := by
  cases p
  case awaitReg => rw [decodeB1, exec, execRxsel, whenEnabled_of_enabled he, if_neg h.symm]
  case awaitData => rw [decodeB1, exec, execRxdat, whenEnabled_of_enabled he, if_neg h.symm]

/-- Settles O46: `decodeR1` is the read of its address, which is RQ exactly when `sel` holds it. -/
theorem rqIsTheRowSelSelects : Obligations.RqIsTheRowSelSelects := by
  intro s he
  refine ⟨?_, fun a ha => ?_, fun p b hp => exec_decodeB1_of_other_phase he hp b⟩
  · rw [exec_decodeR1, busRead_of_selected he rfl, exec_rq_of_enabled he]
  · rw [exec_decodeR1, busRead_of_not_selected he ha.symm]

/-- The register a read returned, read again: 0x00 where the read has cleared it. -/
theorem regData_rq (s : State) :
    regData s.sel (rq s) = if s.sel = 0x21 ∨ s.sel = 0x22 then 0 else regData s.sel s := by
  by_cases h21 : s.sel = 0x21
  · rw [if_pos (.inl h21), rq_eq, h21]
    rfl
  · by_cases h22 : s.sel = 0x22
    · rw [if_pos (.inr h22), rq_eq, h22]
      rfl
    · rw [if_neg (not_or.2 ⟨h21, h22⟩), rq_of_no_clear h21 h22]
      rfl

theorem rq_lastReply (s : State) : (rq s).lastReply = some (regData s.sel s) := by
  rw [rq_eq]
  rfl

/-- A second read clears and closes nothing that the first has not. -/
theorem rq_rq (s : State) : rq (rq s) = { rq s with outbox := (rq (rq s)).outbox } := by
  rw [rq_eq (rq s), rq_sel, rq_eq s]
  split_ifs <;> rfl

/-- Settles O48: the second reply is `regData_rq`, and `rq_rq` changes nothing else. -/
theorem secondRequestReadsAgain : Obligations.SecondRequestReadsAgain := by
  intro s t u hs ht
  obtain rfl := exec_rq_next hs
  obtain rfl := exec_rq_next ht
  refine ⟨rq_rq s, ?_⟩
  rw [rq_lastReply, rq_lastReply, rq_sel, regData_rq, apply_ite some]

/-! ### The level of `btn_raw` between ticks (R141) -/

theorem rx_putBtnRaw (byte raw : Byte) (s : State) : rx byte (s.putBtnRaw raw) = (rx byte s).putBtnRaw raw := by
  cases h : s.phase
  case awaitReg =>
    rw [rx_of_awaitReg h, rx_of_awaitReg (s := s.putBtnRaw raw) h]
    rfl
  case awaitData =>
    rw [rx_of_awaitData h, rx_of_awaitData (s := s.putBtnRaw raw) h]
    exact congrArg (State.putPhase .awaitReg)
      (memWrite_comm (dispatchFree_putBtnRaw raw) s.sel byte (s.putPend byte))

theorem rq_putBtnRaw (raw : Byte) (s : State) : rq (s.putBtnRaw raw) = (rq s).putBtnRaw raw := by
  rw [rq_eq, rq_eq]
  rfl

/-- What runs the same under another level does so as a run-time event. -/
theorem whenEnabled_putBtnRaw {run : State → Host.Outcome State Fault Refusal} {s : State} (raw : Byte)
    (h : run (s.putBtnRaw raw) = mapNext (State.putBtnRaw raw) (run s)) :
    whenEnabled (s.putBtnRaw raw) run = mapNext (State.putBtnRaw raw) (whenEnabled s run) := by
  cases he : s.enabled
  case false => rw [whenEnabled_of_not_enabled he, whenEnabled_of_not_enabled (s := s.putBtnRaw raw) he]; rfl
  case true => rw [whenEnabled_of_enabled he, whenEnabled_of_enabled (s := s.putBtnRaw raw) he, h]

theorem busWrite_putBtnRaw (reg val raw : Byte) (s : State) :
    busWrite reg val (s.putBtnRaw raw) = mapNext (State.putBtnRaw raw) (busWrite reg val s) := by
  refine whenEnabled_putBtnRaw raw ?_
  rw [rx_putBtnRaw, rx_putBtnRaw, mapNext]

theorem busRead_putBtnRaw (reg raw : Byte) (s : State) :
    busRead reg (s.putBtnRaw raw) = mapNext (State.putBtnRaw raw) (busRead reg s) := by
  refine whenEnabled_putBtnRaw raw ?_
  rw [rq_putBtnRaw, State.putBtnRaw_sel]
  split <;> rfl

/-- A row that runs no DEBOUNCE does the same under any level. -/
theorem exec_putBtnRaw {i : Instr} (hi : Instr.kind i ∉ [Kind.overflow, .tickProc, .debounceProc, .level])
    (raw : Byte) (s : State) : exec i (s.putBtnRaw raw) = mapNext (State.putBtnRaw raw) (exec i s) := by
  cases i
  case tov | tick | debounce | btn => simp [Instr.kind] at hi
  case wfreq0 | wduty0 | wfreq1 | wduty1 | wfreq2 | wduty2 | wout | wign => exact busWrite_putBtnRaw _ _ raw s
  case rana | rbtn | rfall | rrise | rzero => exact busRead_putBtnRaw _ raw s
  case rxsel reg =>
    simp only [exec, execRxsel]
    refine whenEnabled_putBtnRaw raw ?_
    rw [State.putBtnRaw_phase]
    split <;> rfl
  case rxdat val =>
    simp only [exec, execRxdat]
    refine whenEnabled_putBtnRaw raw ?_
    rw [State.putBtnRaw_phase]
    split
    next hp =>
      have hrx := rx_putBtnRaw val raw s
      rw [rx, State.putBtnRaw_phase, rx, hp] at hrx
      exact congrArg Host.Outcome.next hrx
    next => rfl
  case rx byte =>
    simp only [exec, execRx]
    refine whenEnabled_putBtnRaw raw ?_
    rw [rx_putBtnRaw, mapNext]
  case rq =>
    simp only [exec, execRq]
    refine whenEnabled_putBtnRaw raw ?_
    rw [rq_putBtnRaw, mapNext]
  case adcDone result =>
    simp only [exec, execAdcDone]
    refine whenEnabled_putBtnRaw raw ?_
    rw [State.putBtnRaw_adcBusy]
    split <;> rfl
  case reset => rfl
  case init =>
    cases he : s.enabled
    case false => rw [exec_init_of_not_enabled he, exec_init_of_not_enabled (s := s.putBtnRaw raw) he]; rfl
    case true => rw [exec_init_of_enabled he, exec_init_of_enabled (s := s.putBtnRaw raw) he]; rfl
  case integrate => rfl
  case setfreq ch code =>
    exact congrArg Host.Outcome.next (setFreq_comm (dispatchFree_putBtnRaw raw) ch code s)
  case setduty ch duty =>
    simp only [exec, execSetduty, setDuty_comm (dispatchFree_putBtnRaw raw)]
    split <;> rfl
  case dispatch reg val =>
    exact congrArg Host.Outcome.next (memWrite_comm (dispatchFree_putBtnRaw raw) reg val s)

/-- Settles O24, row by row in `exec_putBtnRaw`. -/
theorem portLevelSeenByDebounceOnly : Obligations.PortLevelSeenByDebounceOnly :=
  fun _ s raw hi => exec_putBtnRaw hi raw s

end Sys2Proof.Machine
end

section
/-! The single-writer table and the ports (spec/10_state.md sections 1, 9 and 12, spec/20_memory.md section 4): what
each kind of row leaves unchanged. -/

namespace Sys2Proof.Machine

/-! ### Which registers DISPATCH to an address writes (R65) -/

/-- DISPATCH writes the frequency registers only at 0x40, 0x42 and 0x44, a target only at 0x41, 0x43 and 0x45,
and the output port only at 0x60. -/
theorem memWrite_frame_of_address (reg v : Byte) (s : State) :
    ∃ f t a b e o, memWrite reg v s =
        { s with pwmFreq := f, pwmTarget := t, prescA := a, prescB := b, ocEn := e, outPort := o } ∧
      (reg ∉ ([0x40, 0x42, 0x44] : List Byte) → f = s.pwmFreq ∧ a = s.prescA ∧ b = s.prescB ∧ e = s.ocEn) ∧
      (reg ∉ ([0x41, 0x43, 0x45] : List Byte) → t = s.pwmTarget) ∧ (reg ≠ 0x60 → o = s.outPort) := by
  rcases memWrite_forms reg v with ⟨c, hreg, h⟩ | ⟨c, hreg, h⟩ | ⟨hreg, h⟩ | ⟨-, h⟩
  · obtain ⟨f, a, b, e, hset⟩ := setFreq_frame c v s
    have hmem : reg ∈ ([0x40, 0x42, 0x44] : List Byte) := by rw [hreg]; fin_cases c <;> decide
    exact ⟨f, _, a, b, e, _, (h s).trans hset, fun hno => absurd hmem hno, fun _ => rfl, fun _ => rfl⟩
  · obtain ⟨t, hset⟩ := setDuty_frame c v s
    have hmem : reg ∈ ([0x41, 0x43, 0x45] : List Byte) := by rw [hreg]; fin_cases c <;> decide
    exact ⟨_, t, _, _, _, _, (h s).trans hset, fun _ => ⟨rfl, rfl, rfl, rfl⟩, fun hno => absurd hmem hno,
      fun _ => rfl⟩
  · exact ⟨_, _, _, _, _, v, h s, fun _ => ⟨rfl, rfl, rfl, rfl⟩, fun _ => rfl, fun hno => absurd hreg hno⟩
  · exact ⟨_, _, _, _, _, _, h s, fun _ => ⟨rfl, rfl, rfl, rfl⟩, fun _ => rfl, fun _ => rfl⟩

/-- The pair of a write transaction dispatches to its target (R191, R214). -/
theorem rx_rx_target (reg val : Byte) (s : State) :
    ∃ v p q d, rx val (rx reg s) = { memWrite (s.pairTarget reg) v s with phase := p, sel := q, pend := d } := by
  cases h : s.phase
  case awaitReg =>
    rw [rx_rx_of_awaitReg h, memWrite_comm (dispatchFree_putPend val), memWrite_comm (dispatchFree_putSel reg),
      State.pairTarget, h]
    exact ⟨val, _, _, _, rfl⟩
  case awaitData =>
    rw [rx_rx_of_awaitData h, memWrite_comm (dispatchFree_putSel val), memWrite_comm (dispatchFree_putPend reg),
      State.pairTarget, h]
    exact ⟨reg, _, _, _, rfl⟩

/-- A row made of RX dispatches to its target, or only stores protocol registers. -/
theorem exec_receive {i : Instr} {s t : State} (hk : Instr.kind i = .receive) (h : exec i s = .next t) :
    (∃ p q d, t = { s with phase := p, sel := q, pend := d }) ∨
    ∃ reg v p q d, Instr.target i s = some reg ∧
      t = { memWrite reg v s with phase := p, sel := q, pend := d } := by
  have write (reg val : Byte) (hw : busWrite reg val s = .next t) :
      ∃ v p q d, t = { memWrite (s.pairTarget reg) v s with phase := p, sel := q, pend := d } := by
    rw [← Host.Outcome.next.inj (whenEnabled_next hw).2]
    exact rx_rx_target reg val s
  have data (b : Byte) (hp : s.phase = .awaitData) :
      rx b s = { memWrite s.sel b s with phase := .awaitReg, sel := (memWrite s.sel b s).sel, pend := b } := by
    rw [rx_of_awaitData hp]
    exact congrArg (State.putPhase .awaitReg) (memWrite_comm (dispatchFree_putPend b) s.sel b s)
  cases i
  case wfreq0 | wduty0 | wfreq1 | wduty1 | wfreq2 | wduty2 | wout | wign =>
    obtain ⟨v, p, q, d, ht⟩ := write _ _ h
    exact .inr ⟨_, v, p, q, d, rfl, ht⟩
  case rxsel reg =>
    rw [exec, execRxsel] at h
    obtain ⟨-, hrun⟩ := whenEnabled_next h
    split at hrun
    · exact .inl ⟨_, _, _, (Host.Outcome.next.inj hrun).symm⟩
    · cases hrun
  case rxdat val =>
    obtain ⟨hp, ht⟩ := exec_rxdat_next h
    exact .inr ⟨_, val, _, _, _, rfl, ht.trans (data val hp)⟩
  case rx b =>
    rw [exec_rx_next h]
    cases hp : s.phase
    case awaitReg => exact .inl ⟨_, _, _, rx_of_awaitReg hp b⟩
    case awaitData => exact .inr ⟨_, b, _, _, _, if_pos hp, data b hp⟩
  all_goals cases hk

theorem exec_setduty_next {ch : Nat} {duty : Byte} {s t : State} (h : exec (.setduty ch duty) s = .next t) :
    t = setDuty ch duty s := by
  rw [exec, execSetduty] at h
  split at h
  · exact (Host.Outcome.next.inj h).symm
  · cases h

/-- `t` is `s` but for the protocol registers and the registers of the procedures that the row calls; a procedure
leaves the protocol registers alone too. -/
def Instr.WritesOnly (i : Instr) (s t : State) : Prop :=
  ∃ f g a b e o p q d, t =
      { s with pwmFreq := f, pwmTarget := g, prescA := a, prescB := b, ocEn := e, outPort := o
               phase := p, sel := q, pend := d } ∧
    (¬ Instr.callsSetfreq i s → f = s.pwmFreq ∧ a = s.prescA ∧ b = s.prescB ∧ e = s.ocEn) ∧
    (¬ Instr.callsSetduty i s → g = s.pwmTarget) ∧ (Instr.target i s ≠ some 0x60 → o = s.outPort) ∧
    (Instr.kind i = .writeProc → p = s.phase ∧ q = s.sel ∧ d = s.pend)

theorem writesOnly_of_dispatch {i : Instr} {s t : State} {reg v : Byte} {p : Phase} {q d : Byte}
    (htarget : Instr.target i s = some reg)
    (ht : t = { memWrite reg v s with phase := p, sel := q, pend := d })
    (hproc : Instr.kind i = .writeProc → p = s.phase ∧ q = s.sel ∧ d = s.pend) : Instr.WritesOnly i s t := by
  obtain ⟨f, g, a, b, e, o, hm, hfreq, hduty, hout⟩ := memWrite_frame_of_address reg v s
  refine ⟨f, g, a, b, e, o, p, q, d, by rw [ht, hm], fun hno => hfreq fun hreg => hno (.inr ?_),
    fun hno => hduty fun hreg => hno (.inr ?_), fun hno => hout fun hreg => hno ?_, hproc⟩
  · rw [htarget]; simpa using hreg
  · rw [htarget]; simpa using hreg
  · rw [htarget, hreg]

theorem exec_receive_writesOnly {i : Instr} {s t : State} (hk : Instr.kind i = .receive) (h : exec i s = .next t) :
    Instr.WritesOnly i s t := by
  have hproc : Instr.kind i ≠ .writeProc := by rw [hk]; decide
  rcases exec_receive hk h with ⟨p, q, d, ht⟩ | ⟨reg, v, p, q, d, htarget, ht⟩
  · exact ⟨_, _, _, _, _, _, p, q, d, ht, fun _ => ⟨rfl, rfl, rfl, rfl⟩, fun _ => rfl, fun _ => rfl,
      fun hno => absurd hno hproc⟩
  · exact writesOnly_of_dispatch htarget ht fun hno => absurd hno hproc

theorem exec_writeProc_writesOnly {i : Instr} {s t : State} (hk : Instr.kind i = .writeProc)
    (h : exec i s = .next t) : Instr.WritesOnly i s t := by
  cases i
  case setfreq ch code =>
    obtain ⟨f, a, b, e, hset⟩ := setFreq_frame ch code s
    exact ⟨f, _, a, b, e, _, _, _, _, (Host.Outcome.next.inj h).symm.trans hset,
      fun hno => absurd (.inl ⟨ch, code, rfl⟩) hno, fun _ => rfl, fun _ => rfl, fun _ => ⟨rfl, rfl, rfl⟩⟩
  case setduty ch duty =>
    obtain ⟨g, hset⟩ := setDuty_frame ch duty s
    exact ⟨_, g, _, _, _, _, _, _, _, (exec_setduty_next h).trans hset, fun _ => ⟨rfl, rfl, rfl, rfl⟩,
      fun hno => absurd (.inl ⟨ch, duty, rfl⟩) hno, fun _ => rfl, fun _ => ⟨rfl, rfl, rfl⟩⟩
  case dispatch reg v =>
    have ht : t = memWrite reg v s := (Host.Outcome.next.inj h).symm
    exact writesOnly_of_dispatch rfl (p := t.phase) (q := t.sel) (d := t.pend) (by rw [ht])
      fun _ => by rw [ht, memWrite_phase, memWrite_sel, memWrite_pend]; exact ⟨rfl, rfl, rfl⟩
  all_goals cases hk

/-- A row made of RX, and a procedure that writes, writes no more than what it calls. -/
theorem exec_writesOnly {i : Instr} {s t : State} (hk : Instr.kind i ∈ [Kind.receive, .writeProc])
    (h : exec i s = .next t) : Instr.WritesOnly i s t := by
  rcases List.mem_cons.1 hk with hreceive | hproc
  · exact exec_receive_writesOnly hreceive h
  · exact exec_writeProc_writesOnly (List.mem_singleton.1 hproc) h

/-! ### What a row that answers a next state may have written -/

/-- The registers each kind of row may write: a form of `exec_cases` that says what stays. -/
theorem exec_frame {i : Instr} {s t : State} (h : exec i s = .next t) :
    (Instr.kind i ∈ [Kind.receive, .writeProc] ∧ ∃ f g a b e o p q d, t =
      { s with pwmFreq := f, pwmTarget := g, prescA := a, prescB := b, ocEn := e, outPort := o
               phase := p, sel := q, pend := d }) ∨
    (Instr.kind i = .request ∧ t = rq s) ∨ (i = .reset ∧ t = hardReset s) ∨
    (i = .init ∧ s.enabled = false ∧ t = startUp s) ∨
    (Instr.kind i ∈ [Kind.overflow, .tickProc, .debounceProc, .integrateProc] ∧ ∃ d l f r c v, t =
      { s with tickDiv := d, btnState := l, btnFall := f, btnRise := r, btnCnt := c, pwmLevel := v }) ∨
    (∃ r, i = .adcDone r ∧ s.enabled = true ∧ s.adcBusy = true ∧ t = adcDone r s) ∨
    ∃ raw, i = .btn raw ∧ t = s.putBtnRaw raw := by
  by_cases hk : Instr.kind i ∈ [Kind.receive, .writeProc]
  · obtain ⟨f, g, a, b, e, o, p, q, d, ht, -⟩ := exec_writesOnly hk h
    exact .inl ⟨hk, f, g, a, b, e, o, p, q, d, ht⟩
  · right
    replace h := exec_cases h
    rcases h with ⟨hkind, -⟩ | ⟨hkind, -, ht⟩ | ⟨hi, ht⟩ | ⟨hi, he, ht⟩ | ⟨rfl, -, ht⟩ | ⟨r, hi, he, hb, ht⟩ |
      ⟨raw, hi, ht⟩ | ⟨rfl, ht⟩ | ⟨rfl, ht⟩ | ⟨rfl, ht⟩ | ⟨ch, code, rfl, -⟩ | ⟨ch, duty, rfl, -⟩ | ⟨reg, val, rfl, -⟩
    · exact absurd (by rw [hkind]; decide) hk
    · exact .inl ⟨hkind, ht⟩
    · exact .inr (.inl ⟨hi, ht⟩)
    · exact .inr (.inr (.inl ⟨hi, he, ht⟩))
    · obtain ⟨d, l, f, r, c, v, hf⟩ := tov_frame s
      exact .inr (.inr (.inr (.inl ⟨by decide, d, l, f, r, c, v, ht.trans hf⟩)))
    · exact .inr (.inr (.inr (.inr (.inl ⟨r, hi, he, hb, ht⟩))))
    · exact .inr (.inr (.inr (.inr (.inr ⟨raw, hi, ht⟩))))
    · obtain ⟨l, f, r, c, v, hf⟩ := tick_frame s
      exact .inr (.inr (.inr (.inl ⟨by decide, _, l, f, r, c, v, ht.trans hf⟩)))
    · obtain ⟨l, f, r, c, hf⟩ := debounce_frame s
      exact .inr (.inr (.inr (.inl ⟨by decide, _, l, f, r, c, _, ht.trans hf⟩)))
    · obtain ⟨v, hf⟩ := integrate_frame s
      exact .inr (.inr (.inr (.inl ⟨by decide, _, _, _, _, _, v, ht.trans hf⟩)))
    all_goals simp [Instr.kind] at hk

/-- No row writes the parameters. -/
theorem exec_params {i : Instr} {s t : State} (h : exec i s = .next t) : t.params = s.params := by
  rcases exec_frame h with ⟨-, f, g, a, b, e, o, p, q, d, rfl⟩ | ⟨-, rfl⟩ | ⟨-, rfl⟩ | ⟨-, -, rfl⟩ |
    ⟨-, d, l, f, r, c, v, rfl⟩ | ⟨r, -, -, -, rfl⟩ | ⟨raw, -, rfl⟩
  case inr.inl => rw [rq_eq]
  all_goals rfl

end Sys2Proof.Machine
end

section
/-! The statements about every row: writers, edges and outputs (spec/10_state.md sections 9 and 12, spec/20_memory.md
section 4). -/

namespace Sys2Proof.Machine

/-! ### The single-writer table (R50) -/

/-- Settles O49, by what each kind of row can write: `exec_writesOnly` for the rows that dispatch, the frames of the
procedures for the ticks. -/
theorem eachRegisterHasItsWriters : Obligations.EachRegisterHasItsWriters := by
  intro i s t h
  by_cases hk : Instr.kind i ∈ [Kind.receive, .writeProc]
  · obtain ⟨f, g, a, b, e, o, p, q, d, rfl, hfreq, hduty, hout, hproc⟩ := exec_writesOnly hk h
    refine ⟨fun _ => ⟨rfl, rfl⟩, fun _ => rfl, fun hno => absurd hk (by rw [hno]; decide), fun _ => ⟨rfl, rfl⟩,
      fun _ => ⟨rfl, rfl⟩, fun _ => rfl, fun hno _ => hfreq hno, fun hno _ => hduty hno, fun hno _ => hout hno,
      fun _ => rfl, fun hno => ?_, fun hno => ?_, fun _ => rfl⟩
    · exact (hproc (by simp at hk hno; tauto)).1
    · exact (hproc (by simp at hk hno; tauto)).2
  · replace h := exec_cases h
    rcases h with ⟨hkind, -⟩ | ⟨hkind, -, ht⟩ | ⟨rfl, -⟩ | ⟨rfl, -, ht⟩ | ⟨rfl, -, ht⟩ | ⟨r, rfl, -, hb, ht⟩ |
      ⟨raw, rfl, ht⟩ | ⟨rfl, ht⟩ | ⟨rfl, ht⟩ | ⟨rfl, ht⟩ | ⟨ch, code, rfl, -⟩ | ⟨ch, duty, rfl, -⟩ |
      ⟨reg, val, rfl, -⟩
    · simp [hkind] at hk
    · simp [hkind, ht, rq_eq]
    · simp [Instr.kind]
    · simp [Instr.kind, ht, startUp]
    · obtain ⟨d, l, f, r, c, v, hframe⟩ := tov_frame s
      simp [Instr.kind, ht, hframe]
    · simp [Instr.kind, ht, adcDone, hb]
    · simp [Instr.kind, ht]
    · obtain ⟨l, f, r, c, v, hframe⟩ := tick_frame s
      simp [Instr.kind, ht, hframe]
    · obtain ⟨l, f, r, c, hframe⟩ := debounce_frame s
      simp [Instr.kind, ht, hframe]
    · obtain ⟨v, hframe⟩ := integrate_frame s
      simp [Instr.kind, ht, hframe]
    all_goals simp [Instr.kind] at hk

/-! ### The edges (R81) -/

/-- A channel's tick sets a flag exactly when the level changes to it, and clears none. -/
theorem ButtonView.tick_edges (ticks : Byte) (raw : Bool) (b : ButtonView) :
    (b.tick ticks raw).rise = (b.rise || (!b.level && (b.tick ticks raw).level)) ∧
    (b.tick ticks raw).fall = (b.fall || (b.level && !(b.tick ticks raw).level)) := by
  by_cases hcnt : b.cnt ≠ 0
  · rw [ButtonView.tick_of_counting ticks hcnt]
    simp
  · by_cases hraw : raw = b.level
    · rw [ButtonView.tick_of_same ticks (not_not.1 hcnt) hraw]
      simp
    · rw [ButtonView.tick_of_change ticks (not_not.1 hcnt) hraw, Bool.eq_not.2 hraw]
      cases b.level <;> simp

theorem tov_button (s : State) (ch : Fin 8) :
    (tov s).button ch = s.button ch ∨
      ∃ raw, (tov s).button ch = (s.button ch).tick s.params.debounceTicks raw := by
  by_cases h : (!s.tickDiv) = s.params.tickActive
  · rw [tov_of_active h, tick_button]
    exact .inr ⟨_, rfl⟩
  · rw [tov_of_not_active h]
    exact .inl rfl

/-- What a row other than RESET and a read does to a button channel: nothing, or the channel's tick. -/
theorem exec_button {i : Instr} {s t : State} (h : exec i s = .next t) (hreset : i ≠ .reset)
    (hrequest : Instr.kind i ≠ .request) (ch : Fin 8) :
    t.button ch = s.button ch ∨ ∃ raw, t.button ch = (s.button ch).tick s.params.debounceTicks raw := by
  by_cases hk : Instr.kind i ∈ [Kind.receive, .writeProc]
  · obtain ⟨f, g, a, b, e, o, p, q, d, rfl, -⟩ := exec_writesOnly hk h
    exact .inl rfl
  · replace h := exec_cases h
    rcases h with ⟨hkind, -⟩ | ⟨hkind, -⟩ | ⟨hi, -⟩ | ⟨-, -, ht⟩ | ⟨-, -, ht⟩ | ⟨r, -, -, -, ht⟩ |
      ⟨raw, -, ht⟩ | ⟨-, ht⟩ | ⟨-, ht⟩ | ⟨-, ht⟩ | ⟨ch, code, rfl, -⟩ | ⟨ch, duty, rfl, -⟩ |
      ⟨reg, val, rfl, -⟩
    · simp [hkind] at hk
    · exact absurd hkind hrequest
    · exact absurd hi hreset
    · rw [ht]; exact .inl rfl
    · rw [ht]; exact tov_button s ch
    · rw [ht]; exact .inl rfl
    · rw [ht]; exact .inl rfl
    · rw [ht]; exact .inr ⟨_, tick_button s ch⟩
    · rw [ht]; exact .inr ⟨_, debounce_button s ch⟩
    · rw [ht]; exact .inl rfl
    all_goals simp [Instr.kind] at hk

/-- Settles O50: outside reads by the channel's tick, in a read by `rq_eq`. -/
theorem everyEdgeIsReturnedOnce : Obligations.EveryEdgeIsReturnedOnce := by
  intro i s t h hreset
  refine ⟨fun hrequest ch => ?_, fun hrequest => ?_⟩
  · rcases exec_button h hreset hrequest ch with hsame | ⟨raw, htick⟩
    · obtain ⟨hl, hf, hr, -⟩ := button_eq_iff.1 hsame
      rw [hl, hf, hr]
      simp [State.button]
    · obtain ⟨hrise, hfall⟩ := ButtonView.tick_edges s.params.debounceTicks raw (s.button ch)
      rw [← htick] at hrise hfall
      exact ⟨hrise, hfall⟩
  · have ht : t = rq s := by
      rcases exec_frame h with ⟨hk, -⟩ | ⟨-, ht⟩ | ⟨rfl, -⟩ | ⟨rfl, -⟩ | ⟨hk, -⟩ | ⟨r, rfl, -⟩ | ⟨raw, rfl, -⟩
      case inr.inl => exact ht
      case inl => simp [hrequest] at hk
      case inr.inr.inr.inr.inl => simp [hrequest] at hk
      all_goals cases hrequest
    rw [ht, rq_eq]
    refine ⟨rfl, fun h21 => ?_, fun h22 => ?_, fun h21 => if_neg h21, fun h22 => if_neg h22⟩
    · rw [h21]
      exact ⟨rfl, rfl⟩
    · rw [h22]
      exact ⟨rfl, rfl⟩

/-! ### What goes out (R43) -/

theorem exec_outbox {i : Instr} {s t : State} (h : exec i s = .next t) :
    (Instr.kind i = .request → ∃ d, t.outbox = .txData d :: s.outbox) ∧
    (Instr.kind i ∈ [Kind.conversion, .init] → t.outbox = .adcStart t.mux :: s.outbox) ∧
    (Instr.kind i ∉ [Kind.request, .conversion, .init] → t.outbox = s.outbox) := by
  rcases exec_frame h with ⟨hk, f, g, a, b, e, o, p, q, d, rfl⟩ | ⟨hk, rfl⟩ | ⟨rfl, rfl⟩ | ⟨rfl, -, rfl⟩ |
    ⟨hk, d, l, f, r, c, v, rfl⟩ | ⟨r, rfl, -, -, rfl⟩ | ⟨raw, rfl, rfl⟩
  · refine ⟨fun hno => ?_, fun hno => ?_, fun _ => rfl⟩
    · simp [hno] at hk
    · have hdisjoint : ∀ k ∈ [Kind.conversion, .init], k ∉ [Kind.receive, .writeProc] := by decide
      exact absurd hk (hdisjoint _ hno)
  · rw [rq_eq]
    exact ⟨fun _ => ⟨_, rfl⟩, fun hno => by simp [hk] at hno, fun hno => by simp [hk] at hno⟩
  · simp [Instr.kind, hardReset]
  · simp [Instr.kind, startUp]
  · refine ⟨fun hno => ?_, fun hno => ?_, fun _ => rfl⟩
    · simp [hno] at hk
    · have hdisjoint : ∀ k ∈ [Kind.conversion, .init],
          k ∉ [Kind.overflow, .tickProc, .debounceProc, .integrateProc] := by decide
      exact absurd hk (hdisjoint _ hno)
  · simp [Instr.kind, adcDone]
  · simp [Instr.kind]

theorem exec_inbox {i : Instr} {s t : State} (h : exec i s = .next t) : t.inbox = s.inbox := by
  rcases exec_frame h with ⟨-, f, g, a, b, e, o, p, q, d, rfl⟩ | ⟨-, rfl⟩ | ⟨-, rfl⟩ | ⟨-, -, rfl⟩ |
    ⟨-, d, l, f, r, c, v, rfl⟩ | ⟨r, -, -, -, rfl⟩ | ⟨raw, -, rfl⟩
  case inr.inl => rw [rq_eq]
  all_goals rfl

theorem exec_btnRaw {i : Instr} {s t : State} (h : exec i s = .next t) (hlevel : Instr.kind i ≠ .level) :
    t.btnRaw = s.btnRaw := by
  rcases exec_frame h with ⟨-, f, g, a, b, e, o, p, q, d, rfl⟩ | ⟨-, rfl⟩ | ⟨-, rfl⟩ | ⟨-, -, rfl⟩ |
    ⟨-, d, l, f, r, c, v, rfl⟩ | ⟨r, -, -, -, rfl⟩ | ⟨raw, rfl, -⟩
  case inr.inl => rw [rq_eq]
  case inr.inr.inr.inr.inr.inr => exact absurd rfl hlevel
  all_goals rfl

theorem ports_ocEnOut (s : State) (c : Fin 3) : s.ports.ocEnOut.getLsbD c = s.ocEn[c] := by
  simp only [State.ports, BitVec.getLsbD_append, BitVec.getLsbD_ofBool]
  fin_cases c <;> simp

/-- Settles O52: the events by `exec_outbox`, the level ports by their definition. -/
theorem outputsComeFromTheirOperations : Obligations.OutputsComeFromTheirOperations := by
  intro i s t h
  obtain ⟨hrequest, hpulse, hnone⟩ := exec_outbox h
  exact ⟨hrequest, hpulse, hnone, rfl, rfl, rfl, ports_ocEnOut t, rfl, rfl, exec_params h, exec_inbox h,
    exec_btnRaw h⟩

end Sys2Proof.Machine
end

section
/-! The invariants of the atomic block and of the shared PWM group, and when a step stops (spec/10_state.md sections 3
and 5, spec/20_memory.md section 4, spec/70_reset_and_hazards.md section 1). -/

namespace Sys2Proof.Machine

/-! ### The PWM invariant R36 -/

theorem State.PwmOk.congr {s t : State} (h : s.PwmOk) (hfreq : t.pwmFreq = s.pwmFreq) (ha : t.prescA = s.prescA)
    (hb : t.prescB = s.prescB) (hen : t.ocEn = s.ocEn) : t.PwmOk where
  prescA := by rw [ha, hfreq]; exact h.prescA
  prescB := by rw [hb, hfreq]; exact h.prescB
  shared := by rw [hfreq]; exact h.shared
  enable0 := by rw [hen, hfreq]; exact h.enable0
  enable1 := by rw [hen, hfreq]; exact h.enable1
  enable2 := by rw [hen, hfreq]; exact h.enable2

/-- On an accepted code the three low bits lose nothing: the channel is enabled unless they are 0 (R166). -/
theorem ocEnable_of_le_seven {code : Byte} (h : code.toNat ≤ 7) : ocEnable code = (logicalCode code != 0) := by
  rw [ocEnable, Bool.eq_iff_iff, bne_iff_ne, bne_iff_ne, logicalCode_eq_setWidth]
  simp [← BitVec.toNat_inj]
  omega

theorem setFreqA_pwmOk {code : Byte} (h : code.toNat ≤ 7) {s : State} (hs : s.PwmOk) : (setFreqA code s).PwmOk where
  prescA := by simp [setFreqA]
  prescB := by simpa [setFreqA] using hs.prescB
  shared := by simpa [setFreqA] using hs.shared
  enable0 := by simpa [setFreqA] using ocEnable_of_le_seven h
  enable1 := by simpa [setFreqA] using hs.enable1
  enable2 := by simpa [setFreqA] using hs.enable2

/-- The facts of an accepted code of the shared group: its hardware code is that of its three low bits (R163), and
they enable as the byte does (R166). -/
theorem shared_code_facts : ∀ code ∈ ([0, 1, 2, 4, 6, 7] : List Byte),
    remap ((logicalCode code).zeroExtend 8) = some (hardwareCode code) ∧
    ocEnable code = (logicalCode code != 0) ∧ sharedCode (logicalCode code) = true ∧
    hardwareCode code ≤ 5 := by decide

theorem setFreqB_pwmOk {code : Byte} (h : code ∈ ([0, 1, 2, 4, 6, 7] : List Byte)) {s : State} (hs : s.PwmOk) :
    (setFreqB code (hardwareCode code) s).PwmOk := by
  obtain ⟨hremap, hen, -⟩ := shared_code_facts code h
  exact
    { prescA := by simpa [setFreqB] using hs.prescA
      prescB := by simpa [setFreqB] using hremap
      shared := by simp [setFreqB]
      enable0 := by simpa [setFreqB] using hs.enable0
      enable1 := by simpa [setFreqB] using hen
      enable2 := by simpa [setFreqB] using hen }

theorem setFreq_pwmOk (ch : Nat) (code : Byte) {s : State} (hs : s.PwmOk) : (setFreq ch code s).PwmOk := by
  rcases setFreq_cases ch code with ⟨-, h⟩ | ⟨-, hcode, h⟩ | ⟨-, -, hcode, h⟩ <;> rw [h]
  · exact hs
  · exact setFreqA_pwmOk hcode hs
  · exact setFreqB_pwmOk hcode hs

/-! ### The state after reset -/

/-- Settles O54, by evaluation of the state after reset. -/
theorem resetMeetsTheInvariant : Obligations.ResetMeetsTheInvariant where
  params := by decide
  atomic := ⟨rfl, rfl⟩
  busy := rfl
  pwm := ⟨by decide, by decide, by decide, by decide, by decide, by decide⟩
  cnt := by unfold State.CntOk; decide

/-! ### What SETFREQ keeps of the frequency registers, every row keeps -/

/-- A predicate of the frequency registers, prescalers and enables that holds after RESET and that SETFREQ keeps is
kept by every row. -/
theorem exec_keeps_freqPredicate {P : State → Prop} (hreset : P State.reset)
    (hcongr : ∀ s t : State, P s → t.pwmFreq = s.pwmFreq → t.prescA = s.prescA → t.prescB = s.prescB →
      t.ocEn = s.ocEn → P t)
    (hfreq : ∀ ch code s, P s → P (setFreq ch code s)) {i : Instr} {s t : State} (h : exec i s = .next t)
    (hs : P s) : P t := by
  have hduty (ch : Nat) (duty : Byte) (s : State) (hs : P s) : P (setDuty ch duty s) := by
    obtain ⟨v, hframe⟩ := setDuty_frame ch duty s
    rw [hframe]
    exact hcongr s _ hs rfl rfl rfl rfl
  have hwrite (reg v : Byte) (s : State) (hs : P s) : P (memWrite reg v s) := by
    rcases memWrite_forms reg v with ⟨c, -, h⟩ | ⟨c, -, h⟩ | ⟨-, h⟩ | ⟨-, h⟩ <;> rw [h]
    · exact hfreq c v s hs
    · exact hduty c v s hs
    · exact hcongr s _ hs rfl rfl rfl rfl
    · exact hs
  have hrx (b : Byte) (s : State) (hs : P s) : P (rx b s) := by
    rcases rx_cases b s with ⟨-, h⟩ | ⟨-, h⟩ <;> rw [h]
    · exact hcongr s _ hs rfl rfl rfl rfl
    · exact hcongr _ _ (hwrite s.sel b _ (hcongr s (s.putPend b) hs rfl rfl rfl rfl)) rfl rfl rfl rfl
  replace h := exec_cases h
  rcases h with ⟨-, -, ⟨b, ht⟩ | ⟨a, b, ht⟩⟩ | ⟨-, -, ht⟩ | ⟨-, ht⟩ | ⟨-, -, ht⟩ | ⟨-, -, ht⟩ | ⟨r, -, -, -, ht⟩ |
    ⟨raw, -, ht⟩ | ⟨-, ht⟩ | ⟨-, ht⟩ | ⟨-, ht⟩ | ⟨ch, code, -, ht⟩ | ⟨ch, duty, -, -, ht⟩ | ⟨reg, val, -, ht⟩
  · rw [ht]
    exact hrx b s hs
  · rw [ht]
    exact hrx b _ (hrx a s hs)
  · rw [ht, rq_eq]
    exact hcongr s _ hs rfl rfl rfl rfl
  · rw [ht]
    exact hcongr State.reset _ hreset rfl rfl rfl rfl
  · rw [ht]
    exact hcongr s _ hs rfl rfl rfl rfl
  · obtain ⟨d, l, f, r, c, v, hframe⟩ := tov_frame s
    rw [ht, hframe]
    exact hcongr s _ hs rfl rfl rfl rfl
  · rw [ht]
    exact hcongr s _ hs rfl rfl rfl rfl
  · rw [ht]
    exact hcongr s _ hs rfl rfl rfl rfl
  · obtain ⟨l, f, r, c, v, hframe⟩ := tick_frame s
    rw [ht, hframe]
    exact hcongr s _ hs rfl rfl rfl rfl
  · obtain ⟨l, f, r, c, hframe⟩ := debounce_frame s
    rw [ht, hframe]
    exact hcongr s _ hs rfl rfl rfl rfl
  · rw [ht]
    exact hcongr s _ hs rfl rfl rfl rfl
  · rw [ht]
    exact hfreq ch code s hs
  · rw [ht]
    exact hduty ch duty s hs
  · rw [ht]
    exact hwrite reg val s hs

/-! ### The invariant of the atomic block -/

theorem exec_pwmOk {i : Instr} {s t : State} (h : exec i s = .next t) (hs : s.PwmOk) : t.PwmOk :=
  exec_keeps_freqPredicate (P := State.PwmOk) resetMeetsTheInvariant.pwm (fun _ _ => State.PwmOk.congr)
    (fun ch code _ => setFreq_pwmOk ch code) h hs

/-- A channel's tick keeps the countdown's range (R153). -/
theorem ButtonView.tick_cnt_le {b : ButtonView} {ticks : Byte} (h : b.cnt ≤ ticks) (raw : Bool) :
    (b.tick ticks raw).cnt ≤ ticks := by
  by_cases hcnt : b.cnt ≠ 0
  · rw [ButtonView.tick_of_counting ticks hcnt, BitVec.le_def]
    have hpred := toNat_pred hcnt
    have hle := BitVec.le_def.1 h
    simp only [hpred]
    omega
  · by_cases hraw : raw = b.level
    · rw [ButtonView.tick_of_same ticks (not_not.1 hcnt) hraw]
      exact h
    · rw [ButtonView.tick_of_change ticks (not_not.1 hcnt) hraw]
      exact BitVec.le_refl _

theorem exec_cntOk {i : Instr} {s t : State} (h : exec i s = .next t) (hs : s.CntOk) : t.CntOk := by
  intro ch
  rw [exec_params h]
  by_cases hreset : i = .reset
  · subst hreset
    rw [← Host.Outcome.next.inj h]
    fin_cases ch <;> exact BitVec.le_def.2 (Nat.zero_le _)
  · by_cases hrequest : Instr.kind i = .request
    · obtain ⟨-, -, -, hwriters, -⟩ := eachRegisterHasItsWriters i s t h
      rw [(hwriters (by rw [hrequest]; decide)).2]
      exact hs ch
    · rcases exec_button h hreset hrequest ch with hsame | ⟨raw, htick⟩
      · obtain ⟨-, -, -, hc⟩ := button_eq_iff.1 hsame
        rw [hc]
        exact hs ch
      · obtain ⟨-, -, -, hc⟩ := button_eq_iff.1 htick
        rw [hc]
        exact ButtonView.tick_cnt_le (b := s.button ch) (hs ch) raw

/-- No row but RESET touches the operation in progress, and RESET abandons it. -/
theorem exec_inflight {i : Instr} {s t : State} (h : exec i s = .next t) :
    t.inflight = s.inflight ∨ t.inflight = none := by
  rcases exec_frame h with ⟨-, f, g, a, b, e, o, p, q, d, rfl⟩ | ⟨-, rfl⟩ | ⟨-, rfl⟩ | ⟨-, -, rfl⟩ |
    ⟨-, d, l, f, r, c, v, rfl⟩ | ⟨r, -, -, -, rfl⟩ | ⟨raw, -, rfl⟩
  case inr.inl => rw [rq_eq]; exact .inl rfl
  case inr.inr.inl => exact .inr rfl
  all_goals exact .inl rfl

/-- INIT sets both, RESET clears both, and no other row writes either (R24, R41). -/
theorem exec_busy {i : Instr} {s t : State} (h : exec i s = .next t) (hs : s.adcBusy = s.enabled) :
    t.adcBusy = t.enabled := by
  rcases exec_frame h with ⟨-, f, g, a, b, e, o, p, q, d, rfl⟩ | ⟨-, rfl⟩ | ⟨-, rfl⟩ | ⟨-, -, rfl⟩ |
    ⟨-, d, l, f, r, c, v, rfl⟩ | ⟨r, -, -, -, rfl⟩ | ⟨raw, -, rfl⟩
  case inr.inl => rw [rq_eq]; exact hs
  case inr.inr.inl => rfl
  case inr.inr.inr.inl => rfl
  all_goals exact hs

theorem exec_inv {i : Instr} {s t : State} (h : exec i s = .next t) (hs : s.Inv) : t.Inv where
  params := by rw [exec_params h]; exact hs.params
  atomic :=
    { preempt := by rw [exec_params h]; exact hs.atomic.preempt
      inflight := (exec_inflight h).elim (fun hsame => hsame.trans hs.atomic.inflight) id }
  busy := exec_busy h hs.busy
  pwm := exec_pwmOk h hs.pwm
  cnt := exec_cntOk h hs.cnt

theorem State.Inv.takeStimulus {s : State} (h : s.Inv) : s.takeStimulus.Inv :=
  ⟨h.params, ⟨h.atomic.preempt, h.atomic.inflight⟩, h.busy, h.pwm.congr rfl rfl rfl rfl, h.cnt⟩

/-- Settles O53: a step of the atomic block waits, passes or runs a row (`step_cases`), and every row keeps the
invariant. -/
theorem stepKeepsTheInvariant : Obligations.StepKeepsTheInvariant := by
  intro s t hs h
  rcases step_cases hs.atomic h with rfl | rfl | ⟨i, -, hexec⟩
  · exact hs
  · exact hs.takeStimulus
  · exact exec_inv hexec hs.takeStimulus

/-! ### The parameters, in both settings of PREEMPT -/

@[simp] theorem Access.run_params (a : Access) (s : State) : (a.run s).1.params = s.params := by
  cases a <;> rfl

theorem advance_params (a : Activation) (s : State) : (advance a s).params = s.params := by
  unfold advance
  split
  · rfl
  · rw [State.putInflight_params, Access.run_params]

/-- Settles O56, by what a step can do (`step_next_cases`). -/
theorem stepKeepsTheParameters : Obligations.StepKeepsTheParameters := by
  intro s t h
  obtain ⟨inbox, hcases⟩ := step_next_cases h
  rcases hcases with rfl | ⟨a, -, rfl⟩ | ⟨i, hexec⟩ | ⟨i, source, rfl⟩
  · rfl
  · rw [advance_params, State.putInbox_params]
  · rw [exec_params hexec, State.putInbox_params]
  · rfl

/-! ### The shared group, in both settings of PREEMPT (R30, R34, R79) -/

/-- The shared group's registers hold legal codes. -/
structure State.SharedRegs (s : State) : Prop where
  freq1 : sharedCode s.pwmFreq[1] = true
  freq2 : sharedCode s.pwmFreq[2] = true
  prescB : s.prescB ≤ 5

theorem State.SharedRegs.congr {s t : State} (h : s.SharedRegs) (hfreq : t.pwmFreq = s.pwmFreq)
    (hb : t.prescB = s.prescB) : t.SharedRegs where
  freq1 := by rw [hfreq]; exact h.freq1
  freq2 := by rw [hfreq]; exact h.freq2
  prescB := by rw [hb]; exact h.prescB

theorem setFreq_sharedRegs (ch : Nat) (code : Byte) {s : State} (hs : s.SharedRegs) :
    (setFreq ch code s).SharedRegs := by
  rcases setFreq_cases ch code with ⟨-, h⟩ | ⟨-, -, h⟩ | ⟨-, -, hcode, h⟩ <;> rw [h]
  · exact hs
  · exact ⟨by simpa [setFreqA] using hs.freq1, by simpa [setFreqA] using hs.freq2, hs.prescB⟩
  · obtain ⟨-, -, hshared, hle⟩ := shared_code_facts code hcode
    exact ⟨by simpa [setFreqB] using hshared, by simpa [setFreqB] using hshared, hle⟩

theorem reset_sharedRegs : State.reset.SharedRegs := ⟨by decide, by decide, by decide⟩

theorem exec_sharedRegs {i : Instr} {s t : State} (h : exec i s = .next t) (hs : s.SharedRegs) : t.SharedRegs :=
  exec_keeps_freqPredicate (P := State.SharedRegs) reset_sharedRegs
    (fun _ _ hs hfreq _ hb _ => hs.congr hfreq hb) (fun ch code _ => setFreq_sharedRegs ch code) h hs

/-- A write that is legal keeps the shared group legal, and no other access touches it. -/
theorem Access.run_sharedRegs {a : Access} (ha : a.sharedOk = true) {s : State} (hs : s.SharedRegs) :
    (a.run s).1.SharedRegs := by
  cases a
  case writeFreq c v =>
    have hv : c = 0 ∨ sharedCode v = true := by simpa [Access.sharedOk] using ha
    refine ⟨?_, ?_, hs.prescB⟩
    all_goals
      simp only [Access.run, State.putPwmFreq_pwmFreq, Vector.getElem_set]
      split
    case refine_1.isTrue hc => exact hv.resolve_left (by rintro rfl; simp at hc)
    case refine_2.isTrue hc => exact hv.resolve_left (by rintro rfl; simp at hc)
    case refine_1.isFalse => exact hs.freq1
    case refine_2.isFalse => exact hs.freq2
  case writePrescB v => exact ⟨hs.freq1, hs.freq2, of_decide_eq_true ha⟩
  all_goals exact hs.congr rfl rfl

/-! ### The accesses of SETFREQ, in the cases of `setFreq_cases` -/

theorem setFreqAccesses_of_rejected {ch : Nat} {code : Byte} (h : freqRejected ch code = true) :
    setFreqAccesses ch code = [] := if_pos h

theorem setFreqAccesses_zero {code : Byte} (h : code.toNat ≤ 7) :
    setFreqAccesses 0 code =
      [.writeFreq 0 (logicalCode code), .writePrescA (logicalCode code), .writeOcEn 0 (ocEnable code)] := by
  rw [setFreqAccesses, if_neg (by rw [freqRejected_iff]; omega), if_pos rfl]

theorem setFreqAccesses_shared {ch : Nat} {code : Byte} (h0 : 0 < ch) (h3 : ch < 3)
    (hcode : code ∈ ([0, 1, 2, 4, 6, 7] : List Byte)) :
    setFreqAccesses ch code =
      [.writeFreq 1 (logicalCode code), .writeFreq 2 (logicalCode code), .writePrescB (hardwareCode code),
        .writeOcEn 1 (ocEnable code), .writeOcEn 2 (ocEnable code)] := by
  rw [setFreqAccesses, if_neg (by rw [freqRejected_shared_iff h0 h3, not_not]; exact hcode), if_neg h0.ne',
    remap_of_shared code hcode]

theorem setFreqAccesses_sharedOk (ch : Nat) (code : Byte) : (setFreqAccesses ch code).all Access.sharedOk = true := by
  rcases setFreq_cases ch code with ⟨hrej, -⟩ | ⟨rfl, hcode, -⟩ | ⟨h0, h3, hcode, -⟩
  · rw [setFreqAccesses_of_rejected hrej]
    rfl
  · rw [setFreqAccesses_zero hcode]
    rfl
  · obtain ⟨-, -, hshared, hle⟩ := shared_code_facts code hcode
    rw [setFreqAccesses_shared h0 h3 hcode]
    simp only [List.all_cons, List.all_nil, Access.sharedOk, hshared, decide_eq_true hle, Bool.or_true,
      Bool.and_true]

theorem memWriteAccesses_sharedOk (addr v : Byte) : (memWriteAccesses addr v).all Access.sharedOk = true := by
  unfold memWriteAccesses
  split
  · split
    · unfold setDutyAccesses
      split <;> rfl
    · exact setFreqAccesses_sharedOk _ v
  · split <;> rfl

/-- The accesses an access leads to write the shared group legally, if at all. -/
theorem Access.run_sharedOk (a : Access) (s : State) : (a.run s).2.all Access.sharedOk = true := by
  cases a
  case readPend reg => exact memWriteAccesses_sharedOk reg s.pend
  case readMux result =>
    simp only [Access.run]
    split <;> rfl
  case testDiv =>
    simp only [Access.run]
    split
    · simp [tickAccesses, integrateAccesses, Access.sharedOk]
    · rfl
  case sampleRaw => simp [Access.run, debounceAccesses, Access.sharedOk]
  case compareLevel i raw =>
    simp only [Access.run]
    split
    · rfl
    · cases raw <;> rfl
  case readPhase byte =>
    simp only [Access.run]
    split <;> rfl
  case readReg addr =>
    simp only [Access.run, clearAccesses]
    split
    · rfl
    · split <;> rfl
  case testCnt | testBelow | testAbove =>
    simp only [Access.run]
    split <;> rfl
  all_goals rfl

theorem openingAccesses_sharedOk (i : Instr) : (openingAccesses i).all Access.sharedOk = true := by
  cases i <;> rfl

theorem State.SharedOk.regs {s : State} (h : s.SharedOk) : s.SharedRegs := ⟨h.freq1, h.freq2, h.prescB⟩

theorem State.SharedRegs.sharedOk {s : State} (h : s.SharedRegs)
    (hdue : ∀ a, s.inflight = some a → a.todo.all Access.sharedOk = true) : s.SharedOk :=
  ⟨h.freq1, h.freq2, h.prescB, fun a ha => List.all_eq_true.1 (hdue a ha)⟩

theorem advance_sharedOk {a : Activation} (ha : a.todo.all Access.sharedOk = true) {s : State} (hs : s.SharedRegs) :
    (advance a s).SharedOk := by
  obtain ⟨source, todo⟩ := a
  cases todo with
  | nil =>
    have hidle : (s.putInflight none).SharedRegs := hs.congr rfl rfl
    exact hidle.sharedOk (by intro b hb; cases hb)
  | cons op later =>
    rw [List.all_cons, Bool.and_eq_true] at ha
    obtain ⟨hop, hlater⟩ := ha
    rw [advance_cons]
    refine State.SharedRegs.sharedOk ?_ fun b hb => ?_
    · exact (Access.run_sharedRegs hop hs).congr rfl rfl
    · simp only at hb
      split at hb
      · cases hb
      · cases hb
        rw [List.all_append, Access.run_sharedOk, hlater]
        rfl

/-- Settles O55: every row keeps the registers legal, an access that was legal keeps them legal and leads to legal
ones, and every operation begins with legal ones. -/
theorem sharedGroupStaysLegal : Obligations.SharedGroupStaysLegal := by
  refine ⟨reset_sharedRegs.sharedOk (by intro a ha; cases ha), fun s t hs h => ?_⟩
  have hdue (a : Activation) (ha : s.inflight = some a) : a.todo.all Access.sharedOk = true :=
    List.all_eq_true.2 (hs.due a ha)
  obtain ⟨inbox, hcases⟩ := step_next_cases h
  have hregs : (s.putInbox inbox).SharedRegs := hs.regs.congr rfl rfl
  rcases hcases with rfl | ⟨a, ha, rfl⟩ | ⟨i, hexec⟩ | ⟨i, source, rfl⟩
  · exact hregs.sharedOk hdue
  · exact advance_sharedOk (hdue a ha) hregs
  · refine (exec_sharedRegs hexec hregs).sharedOk fun a ha => ?_
    rcases exec_inflight hexec with hsame | hnone
    · exact hdue a (hsame.symm.trans ha)
    · rw [hnone] at ha
      cases ha
  · refine State.SharedRegs.sharedOk ?_ fun a ha => ?_
    · exact hregs.congr rfl rfl
    · cases ha
      exact openingAccesses_sharedOk i

/-! ### When a step of the atomic block stops (R234, R263) -/

theorem nextInstr_of_event {s : State} {st : Stimulus} {rest : List Stimulus} {e : Encoding} {i : Instr}
    (hin : s.inbox = st :: rest) (he : encodingOf st s = some e) (hd : decode e = .instr i) :
    s.nextInstr = some i := by
  simp only [State.nextInstr, hin, he, hd]

theorem kind_decodeW2 (w : Word) : Instr.kind (decodeW2 w) = .receive := by
  rw [← wordOf_hiByte_loByte w]
  rcases decodeW2_wordOf_cases (hiByte w) (loByte w) with ⟨-, h⟩ | ⟨-, h⟩ | ⟨-, h⟩ | ⟨-, h⟩ | ⟨-, h⟩ | ⟨-, h⟩ |
    ⟨-, h⟩ | ⟨-, h⟩ <;> rw [h] <;> rfl

theorem kind_decodeR1 (sel : Byte) : Instr.kind (decodeR1 sel) = .request := by
  rcases decodeR1_cases sel with ⟨n, -, h⟩ | ⟨-, h⟩ | ⟨-, h⟩ | ⟨-, h⟩ | ⟨-, h⟩ <;> rw [h] <;> rfl

/-- A received byte, read by the phase, is RX. -/
theorem exec_decodeB1_of_phase {s : State} (he : s.enabled = true) (b : Byte) :
    exec (decodeB1 s.phase b) s = .next (rx b s) := by
  cases hp : s.phase
  case awaitReg => exact (exec_rxsel_eq_rx he hp b).trans (exec_rx_of_enabled he b)
  case awaitData => exact (exec_rxdat_eq_rx he hp b).trans (exec_rx_of_enabled he b)

/-- While `enabled` and `adc_busy` are 1 what the environment can deliver has a step, but for a second INIT. -/
theorem exec_delivered_of_enabled {st : Stimulus} {s : State} {e : Encoding} {i : Instr}
    (henc : encodingOf st s = some e) (hd : decode e = .instr i) (he : s.enabled = true) (hb : s.adcBusy = true) :
    i = .init ∨ ∃ t, exec i s = .next t := by
  cases st <;> cases henc
  case write w =>
    cases hd
    rw [← wordOf_hiByte_loByte w, exec_decodeW2]
    exact .inr ⟨_, busWrite_of_enabled he _ _⟩
  case byte b =>
    cases hd
    exact .inr ⟨_, exec_decodeB1_of_phase he b⟩
  case read =>
    cases hd
    rw [exec_decodeR1]
    exact .inr ⟨_, busRead_of_selected he rfl⟩
  case adcDone result =>
    cases hd
    exact .inr ⟨_, exec_adcDone_of_busy he hb result⟩
  case word w =>
    have hd' : decodeEv w = .instr i := hd
    rcases decodeEv_cases w with ⟨-, h⟩ | ⟨-, h⟩ | ⟨-, h⟩ | ⟨-, h⟩ | ⟨-, h⟩ | ⟨-, h⟩ | ⟨-, h⟩ | ⟨-, h⟩ <;>
      rw [h] at hd' <;> cases hd'
    · exact .inr ⟨_, exec_reset s⟩
    · exact .inl rfl
    · exact .inr ⟨_, exec_tov_of_enabled he⟩
    · exact .inr ⟨_, exec_adcDone_of_busy he hb _⟩
    · exact .inr ⟨_, rfl⟩
    · exact .inr ⟨_, exec_rx_of_enabled he _⟩
    · exact .inr ⟨_, exec_rq_of_enabled he⟩

/-- What the environment can deliver is a run-time event, or RESET, INIT or BTN. -/
theorem kind_delivered {st : Stimulus} {s : State} {e : Encoding} {i : Instr} (henc : encodingOf st s = some e)
    (hd : decode e = .instr i) :
    Instr.kind i ∈ [Kind.receive, .request, .overflow, .conversion] ∨ i = .reset ∨ i = .init ∨
      ∃ raw, i = .btn raw := by
  cases st <;> cases henc
  case write w => cases hd; rw [kind_decodeW2]; exact .inl (by decide)
  case byte b => cases hd; cases s.phase <;> exact .inl (List.mem_cons_self)
  case read => cases hd; rw [kind_decodeR1]; exact .inl (by decide)
  case adcDone result => cases hd; exact .inl (by simp [Instr.kind])
  case word w =>
    have hd' : decodeEv w = .instr i := hd
    rcases decodeEv_cases w with ⟨-, h⟩ | ⟨-, h⟩ | ⟨-, h⟩ | ⟨-, h⟩ | ⟨-, h⟩ | ⟨-, h⟩ | ⟨-, h⟩ | ⟨-, h⟩ <;>
      rw [h] at hd' <;> cases hd' <;> simp [Instr.kind]

/-- How a row that the environment delivers can stop in a state with the invariant. -/
theorem exec_delivered {st : Stimulus} {s : State} {e : Encoding} {i : Instr} (henc : encodingOf st s = some e)
    (hd : decode e = .instr i) (hbusy : s.adcBusy = s.enabled) :
    (∃ t, exec i s = .next t) ∨
    (exec i s = .fault .notEnabled ∧ s.enabled = false ∧
      Instr.kind i ∈ [Kind.receive, .request, .overflow, .conversion]) ∨
    (exec i s = .fault .alreadyInit ∧ s.enabled = true ∧ i = .init) := by
  cases he : s.enabled
  case true =>
    rcases exec_delivered_of_enabled henc hd he (hbusy.trans he) with rfl | hnext
    · exact .inr (.inr ⟨exec_init_of_enabled he, rfl, rfl⟩)
    · exact .inl hnext
  case false =>
    rcases kind_delivered henc hd with hk | rfl | rfl | ⟨raw, rfl⟩
    · exact .inr (.inl ⟨exec_of_not_enabled hk he, rfl, hk⟩)
    · exact .inl ⟨_, exec_reset s⟩
    · exact .inl ⟨_, exec_init_of_not_enabled he⟩
    · exact .inl ⟨_, rfl⟩

/-- A stimulus is read by `sel` and `phase` alone. -/
theorem encodingOf_putInbox (st : Stimulus) (s : State) (l : List Stimulus) :
    encodingOf st (s.putInbox l) = encodingOf st s := by
  cases st <;> rfl

/-- The decoder rejects nothing but a stimulus word of kind 7 or more (R111). -/
theorem decode_rejected_kind {e : Encoding} {kind : BitVec 4} (h : decode e = .rejected (.noStimulus kind)) :
    7 ≤ kind.toNat := by
  cases e
  case ev w =>
    have h' : decodeEv w = .rejected (.noStimulus kind) := h
    rcases decodeEv_cases w with ⟨-, hd⟩ | ⟨-, hd⟩ | ⟨-, hd⟩ | ⟨-, hd⟩ | ⟨-, hd⟩ | ⟨-, hd⟩ | ⟨-, hd⟩ |
      ⟨hkind, hd⟩ <;> rw [hd] at h' <;> cases h'
    exact hkind
  all_goals cases h

/-- How a step of a state with the invariant comes out. -/
theorem step_of_inv {s : State} (hs : s.Inv) :
    (∃ t, step s = .next t) ∨
    (∃ kind : BitVec 4, step s = .refused (.noStimulus kind) ∧ 7 ≤ kind.toNat) ∨
    ∃ i, s.nextInstr = some i ∧
      ((step s = .fault .notEnabled ∧ s.enabled = false ∧
          Instr.kind i ∈ [Kind.receive, .request, .overflow, .conversion]) ∨
       (step s = .fault .alreadyInit ∧ s.enabled = true ∧ i = .init)) := by
  cases hin : s.inbox with
  | nil => exact .inl ⟨s, step_idle_of_empty hs.atomic.inflight hin⟩
  | cons st rest =>
    cases he : encodingOf st s with
    | none => exact .inl ⟨_, step_idle_of_no_encoding hs.atomic.inflight hin he⟩
    | some e =>
      cases hd : decode e with
      | rejected why =>
        obtain ⟨kind⟩ := why
        exact .inr (.inl ⟨kind, step_of_rejected hin he hd, decode_rejected_kind hd⟩)
      | instr i =>
        have hstep : step s = exec i (s.putInbox rest) := step_atomic_of_event hin he hd hs.atomic
        rw [hstep]
        rcases exec_delivered ((encodingOf_putInbox st s rest).trans he) hd hs.busy with hnext | hstop
        · exact .inl hnext
        · exact .inr (.inr ⟨i, nextInstr_of_event hin he hd, hstop⟩)

/-- Settles O57, by the outcomes of `step_of_inv`. -/
theorem stepStopsOnlyOnUndeliverableEvents : Obligations.StepStopsOnlyOnUndeliverableEvents := by
  intro s hs
  refine ⟨fun r hr => ?_, fun r hr => ?_⟩
  · rcases step_of_inv hs with ⟨t, h⟩ | ⟨kind, h, -⟩ | ⟨i, hi, ⟨h, hen, hk⟩ | ⟨h, hen, hinit⟩⟩ <;>
      rw [h] at hr <;> cases hr
    · exact ⟨i, hi, .inl ⟨rfl, hen, hk⟩⟩
    · exact ⟨i, hi, .inr ⟨rfl, hen, hinit⟩⟩
  · rcases step_of_inv hs with ⟨t, h⟩ | ⟨kind, h, hkind⟩ | ⟨i, -, ⟨h, -⟩ | ⟨h, -⟩⟩ <;> rw [h] at hr <;> cases hr
    exact ⟨kind, rfl, hkind⟩

end Sys2Proof.Machine
end

section
/-! The two races of nesting handlers (spec/20_memory.md R77 and R78), as runs that the model evaluates. -/

namespace Sys2Proof.Machine

/-- A property of the state a run ends in, evaluated, gives that state. -/
theorem exists_next_of_nextHas {o : Host.Outcome State Fault Refusal} {p : State → Bool} (h : nextHas o p = true) :
    ∃ t, o = .next t ∧ p t = true := by
  cases o
  case next t => exact ⟨t, rfl, h⟩
  case fault | refused => cases h

/-- A read of 0x22 comes before an overflow on whose tick channel 0 rises. -/
def lostEdgeStart : State :=
  { started with
    params := { Params.default with preempt := true }
    sel := 0x22, tickDiv := true, btnRaw := 0x01
    inbox := [.read, .pass, .pass, .word 0x2000] }

/-- The tick comes whole between the read's reply and its clear, which clears the flag that was not replied. -/
theorem lostEdge_run :
    nextHas (Host.Core.run Sys2Proof.core 7 lostEdgeStart) (fun t =>
      t.inflight = none && t.inbox = [] && bitOf t.btnState 0 = true && bitOf t.btnRise 0 = false &&
      t.outbox = [.txData 0x00]) = true := by
  decide

/-- A tick on which channel 1 rises while channel 0, whose flag is pending, is in its window. -/
def repeatedEdgeStart : State :=
  { started with
    params := { Params.default with preempt := true }
    sel := 0x22, tickDiv := true, btnRaw := 0x03, btnState := 0x01, btnRise := 0x01
    btnCnt := #v[100, 0, 0, 0, 0, 0, 0, 0]
    inbox := .word 0x2000 :: List.replicate 12 .pass ++ [.read, .pass, .read] }

/-- The first read comes whole between the tick's read of the bitmap and its write, which writes back the flag that
was replied. -/
theorem repeatedEdge_run :
    nextHas (Host.Core.run Sys2Proof.core 38 repeatedEdgeStart) (fun t =>
      t.inflight = none && t.inbox = [] && t.btnCnt[(0 : Fin 8)] = 99 && bitOf t.btnState 0 = true &&
      t.outbox = [.txData 0x03, .txData 0x01]) = true := by
  decide

/-- Settles O60, by the two runs. -/
theorem nestedHandlersLoseAndRepeatEdges : Obligations.NestedHandlersLoseAndRepeatEdges := by
  constructor
  · obtain ⟨t, hrun, ht⟩ := exists_next_of_nextHas lostEdge_run
    simp only [Bool.and_eq_true, decide_eq_true_eq] at ht
    obtain ⟨⟨⟨⟨hidle, hin⟩, hstate⟩, hrise⟩, hout⟩ := ht
    exact ⟨lostEdgeStart, t, 7, 0x00, rfl, rfl, rfl, by decide, rfl, by decide, by decide, hrun, hidle, hin, hstate,
      hrise, hout, by decide⟩
  · obtain ⟨t, hrun, ht⟩ := exists_next_of_nextHas repeatedEdge_run
    simp only [Bool.and_eq_true, decide_eq_true_eq] at ht
    obtain ⟨⟨⟨⟨hidle, hin⟩, hcnt⟩, hstate⟩, hout⟩ := ht
    exact ⟨repeatedEdgeStart, t, 38, 0x01, 0x03, rfl, rfl, rfl, by decide, rfl, by decide, by decide, hrun, hidle, hin,
      by rw [hcnt]; rfl, hstate, hout, by decide, by decide⟩

end Sys2Proof.Machine
end

section
/-! The accesses of an operation against the atomic operation (spec/20_memory.md R76): made one after the other with
nothing between them, they are it. -/

namespace Sys2Proof.Machine

/-! ### Accesses made one after the other -/

/-- The accesses, and all they lead to, take `s` to `t` when no other operation comes between them. -/
def Performs (todo : List Access) (s t : State) : Prop := ∃ n, runAccesses n todo s = (t, [])

theorem Performs.nil (s : State) : Performs [] s s := ⟨0, rfl⟩

theorem Performs.append {l l' : List Access} {s t u : State} (h : Performs l s t) (h' : Performs l' t u) :
    Performs (l ++ l') s u := by
  obtain ⟨n, hn⟩ := h
  induction n generalizing l s with
  | zero =>
    cases hn
    exact h'
  | succ n ih =>
    cases l with
    | nil =>
      cases hn
      exact h'
    | cons op rest =>
      obtain ⟨k, hk⟩ := ih hn
      exact ⟨k + 1, by rw [List.cons_append, runAccesses, ← List.append_assoc, hk]⟩

/-- An access is its own effect, and then the accesses it leads to. -/
theorem Performs.of_run {op : Access} {s u t : State} {more : List Access} (hrun : op.run s = (u, more))
    (h : Performs more u t) : Performs [op] s t := by
  obtain ⟨n, hn⟩ := h
  exact ⟨n + 1, by rw [runAccesses, hrun, List.append_nil, hn]⟩

/-- An access that leads to no other. -/
theorem Performs.single {op : Access} {s t : State} (hrun : op.run s = (t, [])) : Performs [op] s t :=
  .of_run hrun (.nil t)

theorem Performs.cons {op : Access} {rest : List Access} {s t u : State} (h : Performs [op] s t)
    (h' : Performs rest t u) : Performs (op :: rest) s u :=
  h.append h'

/-- Operations of a list of channels one after the other. -/
theorem performs_map {α : Type} {f : α → Access} {g : α → State → State} (h : ∀ a s, Performs [f a] s (g a s))
    (l : List α) (s : State) : Performs (l.map f) s (l.foldl (fun t a => g a t) s) := by
  induction l generalizing s with
  | nil => exact .nil s
  | cons a l ih => exact (h a s).cons (ih (g a s))

/-! ### ADC_DONE -/

theorem storeSample_of_some {ch : BitVec 4} {i : Fin 8} (h : storedInput ch = some i) (sample : Byte)
    (ana : Vector Byte 8) : storeSample ch sample ana = ana.set i sample := by
  simp only [storeSample, h]

theorem storeSample_of_none {ch : BitVec 4} (h : storedInput ch = none) (sample : Byte) (ana : Vector Byte 8) :
    storeSample ch sample ana = ana := by
  simp only [storeSample, h]

theorem run_readMux_of_some {result : Nat} {s : State} {i : Fin 8} (h : storedInput s.mux = some i) :
    (Access.readMux result).run s =
      (s, [.writeAna i (sampleOf s.params.adcBits result), .writeMux (s.mux + 1), .pulseStart]) := by
  simp only [Access.run, h, List.cons_append, List.nil_append]

theorem run_readMux_of_none {result : Nat} {s : State} (h : storedInput s.mux = none) :
    (Access.readMux result).run s = (s, [.writeMux (s.mux + 1), .pulseStart]) := by
  simp only [Access.run, h, List.nil_append]

theorem performs_adcDone (result : Nat) (s : State) : Performs [.readMux result] s (adcDone result s) := by
  cases h : storedInput s.mux with
  | none =>
    rw [adcDone, storeSample_of_none h]
    exact .of_run (run_readMux_of_none h) (.cons (.single rfl) (.single rfl))
  | some i =>
    rw [adcDone, storeSample_of_some h]
    exact .of_run (run_readMux_of_some h) (.cons (.single rfl) (.cons (.single rfl) (.single rfl)))

/-! ### DISPATCH, SETFREQ and SETDUTY -/

theorem performs_setFreqA (code : Byte) (s : State) :
    Performs [.writeFreq 0 (logicalCode code), .writePrescA (logicalCode code), .writeOcEn 0 (ocEnable code)] s
      (setFreqA code s) :=
  .cons (.single rfl) (.cons (.single rfl) (.single rfl))

theorem performs_setFreqB (code : Byte) (hw : BitVec 3) (s : State) :
    Performs [.writeFreq 1 (logicalCode code), .writeFreq 2 (logicalCode code), .writePrescB hw,
      .writeOcEn 1 (ocEnable code), .writeOcEn 2 (ocEnable code)] s (setFreqB code hw s) := by
  have hputs : setFreqB code hw s =
      ((((s.putPwmFreq 1 (logicalCode code)).putPwmFreq 2 (logicalCode code)).putPrescB hw).putOcEn 1
        (ocEnable code)).putOcEn 2 (ocEnable code) := by
    simp only [setFreqB, State.putPwmFreq, State.putPrescB, State.putOcEn]
    rfl
  rw [hputs]
  exact .cons (.single rfl) (.cons (.single rfl) (.cons (.single rfl) (.cons (.single rfl) (.single rfl))))

theorem performs_setFreq (ch : Nat) (code : Byte) (s : State) :
    Performs (setFreqAccesses ch code) s (setFreq ch code s) := by
  rcases setFreq_cases ch code with ⟨hrej, h⟩ | ⟨rfl, hcode, h⟩ | ⟨h0, h3, hcode, h⟩ <;> rw [h]
  · rw [setFreqAccesses_of_rejected hrej]
    exact .nil s
  · rw [setFreqAccesses_zero hcode]
    exact performs_setFreqA code s
  · rw [setFreqAccesses_shared h0 h3 hcode]
    exact performs_setFreqB code _ s

theorem performs_setDuty (ch : Nat) (duty : Byte) (s : State) :
    Performs (setDutyAccesses ch duty) s (setDuty ch duty s) := by
  by_cases h : ch < 3
  · rw [setDutyAccesses, dif_pos h, setDuty, dif_pos h]
    exact .single rfl
  · rw [setDutyAccesses, dif_neg h, setDuty, dif_neg h]
    exact .nil s

theorem performs_memWrite (addr v : Byte) (s : State) : Performs (memWriteAccesses addr v) s (memWrite addr v s) := by
  unfold memWriteAccesses memWrite
  split
  · split
    · exact performs_setDuty _ v s
    · exact performs_setFreq _ v s
  · split
    · exact .single rfl
    · exact .nil s

/-! ### RX and RQ -/

theorem run_readPhase_of_awaitReg {byte : Byte} {s : State} (h : s.phase = .awaitReg) :
    (Access.readPhase byte).run s = (s, [.writeSel byte, .writePhase .awaitData]) := by
  simp only [Access.run, h]

theorem run_readPhase_of_awaitData {byte : Byte} {s : State} (h : s.phase = .awaitData) :
    (Access.readPhase byte).run s = (s, [.writePend byte, .readTarget, .writePhase .awaitReg]) := by
  simp only [Access.run, h]

/-- The access that starts DISPATCH reads `sel`, then `pend` (R193). -/
theorem performs_readTarget (s : State) : Performs [.readTarget] s (memWrite s.sel s.pend s) :=
  .of_run rfl (.of_run rfl (performs_memWrite s.sel s.pend s))

theorem performs_rx (byte : Byte) (s : State) : Performs [.readPhase byte] s (rx byte s) := by
  cases h : s.phase
  case awaitReg =>
    rw [rx_of_awaitReg h]
    exact .of_run (run_readPhase_of_awaitReg h) (.cons (.single rfl) (.single rfl))
  case awaitData =>
    rw [rx_of_awaitData h]
    exact .of_run (run_readPhase_of_awaitData h)
      (.cons (.single rfl) (.cons (performs_readTarget (s.putPend byte)) (.single rfl)))

theorem performs_clear (addr : Byte) (s : State) : Performs (clearAccesses addr) s (clearOnRead addr s) := by
  unfold clearAccesses clearOnRead
  split
  · exact .single rfl
  · split
    · exact .single rfl
    · exact .nil s

theorem performs_rq (s : State) : Performs [.readSel] s (rq s) := by
  have hputs : rq s = ((clearOnRead s.sel s).putPhase .awaitReg).emit (.txData (regData s.sel s)) := by
    rw [rq_eq, clearOnRead_eq]
    rfl
  rw [hputs]
  exact .of_run rfl (.of_run rfl ((performs_clear s.sel s).append (.cons (.single rfl) (.single rfl))))

/-! ### INTEGRATE -/

theorem run_testBelow (c : Fin 3) (cur : Byte) (s : State) :
    (Access.testBelow c cur).run s =
      (s, [if cur < s.pwmTarget[c] then .writeOutput c (cur + 1) else .testAbove c cur]) := rfl

theorem run_testAbove (c : Fin 3) (cur : Byte) (s : State) :
    (Access.testAbove c cur).run s = (s, if s.pwmTarget[c] < cur then [.writeOutput c (cur - 1)] else []) := rfl

theorem putPwmLevel_self (c : Fin 3) (s : State) : s.putPwmLevel c s.pwmLevel[c] = s := by
  simp [State.putPwmLevel]

/-- One channel of INTEGRATE, from the read of its output register (R168, R170). -/
theorem performs_rampChannel (c : Fin 3) (s : State) : Performs [.readOutput c] s (rampChannel c s) := by
  refine .of_run rfl (.of_run (run_testBelow c _ s) ?_)
  rw [rampChannel, rampLevel]
  by_cases hbelow : s.pwmLevel[c] < s.pwmTarget[c]
  · rw [if_pos hbelow, if_pos hbelow]
    exact .single rfl
  · rw [if_neg hbelow, if_neg hbelow]
    refine .of_run (run_testAbove c _ s) ?_
    by_cases habove : s.pwmTarget[c] < s.pwmLevel[c]
    · rw [if_pos habove, if_pos habove]
      exact .single rfl
    · rw [if_neg habove, if_neg habove, putPwmLevel_self]
      exact .nil s

theorem rampChannel_comm (c d : Fin 3) (s : State) :
    rampChannel c (rampChannel d s) = rampChannel d (rampChannel c s) := by
  have hlevels : (rampChannel c (rampChannel d s)).pwmLevel = (rampChannel d (rampChannel c s)).pwmLevel := by
    have htarget (a : Fin 3) (u : State) : (rampChannel a u).pwmTarget = u.pwmTarget := rfl
    have hcell (k : Fin 3) :
        (rampChannel c (rampChannel d s)).pwmLevel[k] = (rampChannel d (rampChannel c s)).pwmLevel[k] := by
      simp only [rampChannel_pwmLevel, htarget]
      by_cases hcd : c = d
      · rw [hcd]
      · split_ifs with hc hd hd
        · exact absurd (hc.trans hd.symm) hcd
        all_goals rfl
    ext k hk : 1
    exact hcell ⟨k, hk⟩
  have hframe (a b : Fin 3) :
      rampChannel a (rampChannel b s) = { s with pwmLevel := (rampChannel a (rampChannel b s)).pwmLevel } := rfl
  rw [hframe c d, hframe d c, hlevels]

theorem performs_integrate {order : List (Fin 3)} (h : order.Perm pwmChannels) (s : State) :
    Performs (integrateAccesses order) s (integrate s) := by
  have hperm : order.foldl (fun t c => rampChannel c t) s = integrate s :=
    h.foldl_eq' (fun c _ d _ t => rampChannel_comm d c t) s
  rw [← hperm]
  exact performs_map performs_rampChannel order s

/-! ### DEBOUNCE -/

theorem performs_accept (i : Fin 8) (level : Bool) (s : State) :
    Performs (acceptAccesses i level s.params.debounceTicks) s (acceptChange i level s) := by
  cases level
  case true => exact .cons (.of_run rfl (.single rfl)) (.cons (.of_run rfl (.single rfl)) (.single rfl))
  case false => exact .cons (.of_run rfl (.single rfl)) (.cons (.of_run rfl (.single rfl)) (.single rfl))

theorem run_testCnt (i : Fin 8) (raw : Bool) (s : State) :
    (Access.testCnt i raw).run s = (s, [if s.btnCnt[i] ≠ 0 then .readCnt i else .compareLevel i raw]) := rfl

theorem run_compareLevel (i : Fin 8) (raw : Bool) (s : State) :
    (Access.compareLevel i raw).run s =
      (s, if raw = bitOf s.btnState i then [] else acceptAccesses i raw s.params.debounceTicks) := rfl

/-- One channel of DEBOUNCE, from the test of its countdown (R140). -/
theorem performs_debounceChannel (raw : Byte) (i : Fin 8) (s : State) :
    Performs [.testCnt i (bitOf raw i)] s (debounceChannel raw i s) := by
  refine .of_run (run_testCnt i _ s) ?_
  rw [debounceChannel]
  by_cases hcnt : s.btnCnt[i] ≠ 0
  · rw [if_pos hcnt, if_pos hcnt]
    exact .of_run rfl (.single rfl)
  · rw [if_neg hcnt, if_neg hcnt]
    refine .of_run (run_compareLevel i _ s) ?_
    by_cases hraw : bitOf raw i = bitOf s.btnState i
    · rw [if_pos hraw, if_pos hraw]
      exact .nil s
    · rw [if_neg hraw, if_neg hraw]
      exact performs_accept i (bitOf raw i) s

/-- Two states that differ in the button registers at most, and have the same channels, are equal. -/
theorem eq_of_buttons {s t u : State}
    (ht : ∃ l f r c, t = { s with btnState := l, btnFall := f, btnRise := r, btnCnt := c })
    (hu : ∃ l f r c, u = { s with btnState := l, btnFall := f, btnRise := r, btnCnt := c })
    (h : ∀ i, t.button i = u.button i) : t = u := by
  obtain ⟨hl, hf, hr, hc⟩ := button_ext h
  obtain ⟨l, f, r, c, rfl⟩ := ht
  obtain ⟨l', f', r', c', rfl⟩ := hu
  simp only at hl hf hr hc
  rw [hl, hf, hr, hc]

theorem debounceChannel_comm (raw : Byte) (i j : Fin 8) (s : State) :
    debounceChannel raw i (debounceChannel raw j s) = debounceChannel raw j (debounceChannel raw i s) := by
  have hframe (a b : Fin 8) : ∃ l f r c, debounceChannel raw a (debounceChannel raw b s) =
      { s with btnState := l, btnFall := f, btnRise := r, btnCnt := c } := by
    obtain ⟨l, f, r, c, hb⟩ := debounceChannel_frame raw b s
    obtain ⟨l', f', r', c', ha⟩ := debounceChannel_frame raw a (debounceChannel raw b s)
    exact ⟨l', f', r', c', by rw [ha, hb]⟩
  refine eq_of_buttons (hframe i j) (hframe j i) fun k => ?_
  simp only [debounceChannel_button, debounceChannel_params]
  by_cases hij : i = j
  · rw [hij]
  · split_ifs with hi hj hj
    · exact absurd (hi.trans hj.symm) hij
    all_goals rfl

theorem performs_debounce {s : State} (h : s.params.buttonOrder.Perm buttonChannels) :
    Performs [.sampleRaw] s (debounce s) := by
  have hperm : s.params.buttonOrder.foldl (fun t i => debounceChannel s.btnRaw i t) s = debounce s :=
    h.foldl_eq' (fun i _ j _ t => debounceChannel_comm s.btnRaw j i t) s
  rw [← hperm]
  exact .of_run rfl (performs_map (performs_debounceChannel s.btnRaw) s.params.buttonOrder s)

/-! ### TICK and TOV -/

/-- Legal parameters take every channel once, in some order (D14). -/
theorem Params.wf_orders {p : Params} (h : p.wf = true) :
    p.buttonOrder.Perm buttonChannels ∧ p.pwmOrder.Perm pwmChannels := by
  rw [Params.wf, Bool.and_eq_true, Bool.and_eq_true] at h
  obtain ⟨⟨-, hbutton⟩, hpwm⟩ := h
  exact ⟨List.isPerm_iff.1 hbutton, List.isPerm_iff.1 hpwm⟩

theorem performs_tick {s : State} (h : s.params.wf = true) : Performs (tickAccesses s.params) s (tick s) := by
  obtain ⟨hbutton, hpwm⟩ := Params.wf_orders h
  exact (performs_debounce hbutton).cons (performs_integrate hpwm (debounce s))

theorem run_testDiv (s : State) :
    Access.testDiv.run s = (s, if isTick s then tickAccesses s.params else []) := rfl

theorem performs_tov {s : State} (h : s.params.wf = true) : Performs [.readDiv] s (tov s) := by
  refine .of_run rfl (.cons (t := s.putTickDiv (!s.tickDiv)) (.single rfl) (.of_run (run_testDiv _) ?_))
  by_cases hactive : (!s.tickDiv) = s.params.tickActive
  · rw [if_pos ((isTick_toggled_iff s).2 hactive), tov_of_active hactive]
    exact performs_tick (s := s.putTickDiv (!s.tickDiv)) h
  · rw [if_neg (mt (isTick_toggled_iff s).1 hactive), tov_of_not_active hactive]
    exact .nil _

/-! ### The rows of the event sources -/

theorem busWrite_performs {reg val : Byte} {s t : State} (h : busWrite reg val s = .next t) :
    Performs [.readPhase reg, .readPhase val] s t := by
  rw [← Host.Outcome.next.inj (whenEnabled_next h).2]
  exact (performs_rx reg s).cons (performs_rx val (rx reg s))

theorem busRead_next {reg : Byte} {s t : State} (h : busRead reg s = .next t) : t = rq s := by
  obtain ⟨-, hrun⟩ := whenEnabled_next h
  split at hrun
  · exact (Host.Outcome.next.inj hrun).symm
  · cases hrun

theorem exec_rxsel_next {reg : Byte} {s t : State} (h : exec (.rxsel reg) s = .next t) : t = rx reg s := by
  rw [exec, execRxsel] at h
  obtain ⟨-, hrun⟩ := whenEnabled_next h
  split at hrun
  next hp => rw [← Host.Outcome.next.inj hrun, rx, hp]
  next => cases hrun

/-- A row of an event source that answers a next state is performed by its accesses. -/
theorem exec_performs {i : Instr} {s t : State} {source : Source} (hwf : s.params.wf = true)
    (hsource : Instr.source i = some source) (h : exec i s = .next t) : Performs (openingAccesses i) s t := by
  cases i
  case wfreq0 | wduty0 | wfreq1 | wduty1 | wfreq2 | wduty2 | wout | wign => exact busWrite_performs h
  case rana | rbtn | rfall | rrise | rzero =>
    rw [busRead_next h]
    exact performs_rq s
  case rxsel reg =>
    rw [exec_rxsel_next h]
    exact performs_rx reg s
  case rxdat val =>
    rw [(exec_rxdat_next h).2]
    exact performs_rx val s
  case rx byte =>
    rw [exec_rx_next h]
    exact performs_rx byte s
  case rq =>
    rw [exec_rq_next h]
    exact performs_rq s
  case tov =>
    rw [exec_tov_next h]
    exact performs_tov hwf
  case adcDone result =>
    rw [exec_adcDone_next h]
    exact performs_adcDone result s
  case reset | init | btn | tick | debounce | integrate | setfreq | setduty | dispatch => cases hsource

/-- Settles O58, source by source in `exec_performs`. -/
theorem uninterruptedAccessesAreTheOperation : Obligations.UninterruptedAccessesAreTheOperation :=
  fun _ _ _ _ => exec_performs

end Sys2Proof.Machine
end
